-- ==== Sys2Proof/Word.lean ====
section
/-! DEFINITION. The word types of the Galtika GK3240 and nothing else. -/

namespace Sys2Proof

/-- One byte of a frame, a telegram or a store page. -/
abbrev Byte := BitVec 8

/-- Part time, R1: milliseconds since the end of the last reset, held in 32 bits and wrapping. -/
abbrev Time := BitVec 32

end Sys2Proof
end

