-- ==== Sys2Proof/Syntax.lean ====
section
/-! DEFINITION. The commands of the part: one constructor of `Instr` for each row of
spec/opcode_table.json. The table gives no bits; the operands are what the row's rule names. -/

namespace Sys2Proof

/-- The two ports of the field ring (06, R123). -/
inductive PortId where
  | a
  | b
deriving DecidableEq, Repr

/-- One character received on RXD (R155): its eight data bits, and whether its stop bit was found at
space, in which case it has a framing fault and its data are not taken. -/
structure RxChar where
  value : Byte
  fault : Bool := false
deriving DecidableEq, Repr

/-- The commands of the part. A request row carries the request's tag and its argument bytes: the body of
10.3 less the byte that the row itself fixes (the verb byte of SECTION_ORDER, SWITCH_ORDER and RING_ORDER,
and the kind byte FFh of CLEAR_CONDITION ALL). A row of the receive line carries the characters that arrived.
`order` is a choice among the orders in which the hand-overs of one handling may be taken. -/
inductive Instr where
  /-- R176. The RATE strap (true for 460800 baud) and the links sensed at ports A and B. -/
  | reset (fastRate linkA linkB : Bool)
  | emergencyAsserted
  | emergencyReleased
  | validFrame (chars : List RxChar)
  | interCharacterGap (chars : List RxChar)
  | lineBreak (chars : List RxChar)
  | requestStart
  | replyEntersSlot
  | frameSent
  | unknownKind (kind tag : Byte) (body : List Byte)
  | identify (tag : Byte) (args : List Byte)
  | ping (tag : Byte) (args : List Byte)
  | getLinkStatus (tag : Byte) (args : List Byte)
  | getSection (tag : Byte) (args : List Byte)
  | energise (tag : Byte) (args : List Byte)
  | deEnergise (tag : Byte) (args : List Byte)
  | isolate (tag : Byte) (args : List Byte)
  | restore (tag : Byte) (args : List Byte)
  | release (tag : Byte) (args : List Byte)
  | getFeeder (tag : Byte) (args : List Byte)
  | getTrip (tag : Byte) (args : List Byte)
  | setProtection (tag : Byte) (args : List Byte)
  | getSwitch (tag : Byte) (args : List Byte)
  | pin (tag : Byte) (args : List Byte)
  | unpin (tag : Byte) (args : List Byte)
  | switchRestore (tag : Byte) (args : List Byte)
  | holdOn (tag : Byte) (args : List Byte)
  | holdOff (tag : Byte) (args : List Byte)
  | clearQueue (tag : Byte) (args : List Byte)
  | addRequest (tag : Byte) (args : List Byte)
  | getVehicle (tag : Byte) (args : List Byte)
  | listVehicles (tag : Byte) (args : List Byte)
  | clearVehicleFault (tag : Byte) (args : List Byte)
  | forgetVehicle (tag : Byte) (args : List Byte)
  | getConditions (tag : Byte) (args : List Byte)
  | clearCondition (tag : Byte) (args : List Byte)
  | clearConditionAll (tag : Byte) (args : List Byte)
  | setEnables (tag : Byte) (args : List Byte)
  | getRing (tag : Byte) (args : List Byte)
  | getNode (tag : Byte) (args : List Byte)
  | setMode (tag : Byte) (args : List Byte)
  | reopen (tag : Byte) (args : List Byte)
  | restart (tag : Byte) (args : List Byte)
  | readPage (tag : Byte) (args : List Byte)
  | writePage (tag : Byte) (args : List Byte)
  | pageWriteFinished
  | eraseMap (tag : Byte) (args : List Byte)
  | mapEraseFinished
  | applyMap (tag : Byte) (args : List Byte)
  | ringPeriod (order : List Nat)
  | darkRunLimit
  | telegramReturn (port : PortId) (bytes : List Byte) (order : List Nat)
  | nodeSilent (identity : Nat)
  | portLinkChange (port : PortId) (up : Bool)
  | linkUpAnnounce (port : PortId)
  | riseLimit (feeder : Nat) (current : Int) (voltage : Nat)
  | overcurrentRun (feeder : Nat) (current : Int) (voltage : Nat)
  | saturationRun (feeder : Nat) (current : Int) (voltage : Nat)
  | protectionBlind (feeder : Nat)
  | suspectWatchEnd (index : Nat)
  | closeConfirmTimeout (sect : Nat)
  | openConfirmTimeout (feeder : Nat)
  | adoptionDeadline
  | recloseDelayExpiry (sect : Nat)
  | windowExpiry (sect : Nat)
  | testTimeout (unit : Nat)
  | throwTimeout (switch : Nat)
  | requestExpiry (switch vehicle : Nat)
  | holdLong (switch : Nat)
  | sightTimeout (vehicle : Nat)
  | hostSilenceExpiry
  | discardedFrame (chars : List RxChar)
  | timestampAged
deriving DecidableEq, Repr

end Sys2Proof
end

