-- ==== Sys2Proof/Decode.lean ====
section
/-! DEFINITION. The command that a word spells by the bits of spec/opcode_table.json. No row of the table gives
bits, so no word spells a command (log 2). The frames and telegrams of the manual are not command words: they are
read by Machine/Link.lean and Machine/Telegrams.lean. -/

namespace Sys2Proof

/-- No row of spec/opcode_table.json has bits ("fields" is empty in each), so a word spells no command. -/
def decodeTableWord (_nbits _w : Nat) : Option Instr := none

end Sys2Proof
end

