-- ==== Sys2Proof/Config.lean ====
section
/-! DEFINITION. What the manual leaves to the implementation and the model leaves free: constants without a
body, so that no proof can see their values (log 10). -/

namespace Sys2Proof.Config

/-- How many bytes of a page write had been programmed when reset cut it short (R166: "The bytes programmed
before the cut hold the data written"; the manual does not say how many). Applied to the counter `draws`. -/
opaque bytesProgrammed : Nat → Nat

/-- Whether a map erase cut short by reset had already erased the byte at an address (R166: "each page's bytes then
read partly as before and partly FFh"). Applied to the counter `draws` and the address. -/
opaque byteErased : Nat → Nat → Bool

/-- Where a map that a cut store operation left is at fault, when every check of R173 passes (R166: "Either cut leaves a map that
fails validation"; the manual does not say at which page and offset). Applied to the draw of the cut operation. -/
opaque cutFault : Nat → Nat

/-- The ring port byte of a GET_RING reply while neither port may send (R125, R142: no port is then the ring port, and the
port codes of 10.1 have no absent value). -/
opaque noRingPort : BitVec 8

/-- The discovery shape byte of a GET_RING reply outside STARTING (R142 shows the shape in STARTING; the shape codes of
10.1 have no absent value). -/
opaque noShape : BitVec 8

end Sys2Proof.Config
end

