-- ==== Sys2Proof/Machine/State.lean ====
section
/-! DEFINITION. The state of the part as plain data: every table, record, counter, mode and pin the manual gives it,
the outcomes a command can stop with, and the state right after reset. -/

namespace Sys2Proof.Machine

/-! ## Times (00) -/

/-- A stored timestamp that is not, or may outlive, the start of a timer (R1): its part time, and the mark it takes
when it lies 2^31 ms or more back. -/
structure Stamp where
  t : Time
  aged : Bool := false
deriving DecidableEq, Repr

/-- The Time Base (R1, R167). `half` is the model's own: one 500 us ring period past the last whole millisecond. -/
structure TimeBase where
  now : Time := 0
  half : Bool := false
  trim : Int := 0
deriving DecidableEq, Repr

/-! ## Sections and feeders (01, 03) -/

/-- The ten section states (R2). -/
inductive SectionState where
  | unsettled | isolated | dead | closing | live | opening | tripped | recloseWait | testing | lockedOut
deriving DecidableEq, Repr

/-- The eight lock reasons (R2). -/
inductive LockReason where
  | tripLimit | testFailed | testUnavailable | vehicleSuspect | failToClose | switchOnFault | noReclose | nodeAbsent
deriving DecidableEq, Repr

/-- How the present closing began (R3). -/
inductive ClosingOrigin where
  | energise | reclose | adoption
deriving DecidableEq, Repr

/-- The destination of an OPENING or TRIPPED section; a lockout carries its reason (R3). -/
inductive Destination where
  | dead
  | lockedOut (reason : LockReason)
  | recloseWait
deriving DecidableEq, Repr

/-- The condition of a reclose window (R58): NONE, OPEN or EXPIRED. -/
inductive WindowCond where
  | closed | opened | expired
deriving DecidableEq, Repr

/-- The kinds of a line test result (R69). -/
inductive TestResultKind where
  | pass | fail | noSupply | liveLine | timeout
deriving DecidableEq, Repr

/-- A line test result with its recorded values (R69). -/
structure TestResult where
  kind : TestResultKind
  resistance : Option Nat := none
  vSup : Option Nat := none
  vSec : Option Nat := none
deriving DecidableEq, Repr

/-- A section's test unit and channel (R2). -/
structure TestChannel where
  unit : Nat
  channel : Nat
deriving DecidableEq, Repr

/-- The reclose settings of a section, from the map (R2, R58, R60, R69). W is in seconds, D_rc in tenths of a second. -/
structure RecloseSettings where
  rMax : Nat
  window : Nat
  delay : Nat
  blind : Bool
  rClear : Nat
deriving DecidableEq, Repr

/-- A record of the section table (R2). `closingSince` is the start of the close confirmation time (R10) and
`delayStart` that of the reclose delay (R60). -/
structure Section where
  number : Nat
  state : SectionState
  feeders : List Nat
  test : Option TestChannel
  settings : RecloseSettings
  destination : Option Destination := none
  lockReason : Option LockReason := none
  origin : Option ClosingOrigin := none
  liveSince : Option Stamp := none
  closingSince : Option Time := none
  window : WindowCond := .closed
  windowStart : Option Stamp := none
  attempts : Nat := 0
  testsUsed : Nat := 0
  lastTest : Option TestResult := none
  delayStart : Option Time := none
  cancel : Bool := false
  stop : Bool := false
deriving DecidableEq, Repr

/-- A breaker position as reported (R6). -/
inductive Breaker where
  | unknown | opened | closed | travelling
deriving DecidableEq, Repr

/-- What a feeder's slots order (R6): NONE, CLOSE or OPEN. -/
inductive FeederOrder where
  | idle | close | opens
deriving DecidableEq, Repr

/-- A feeder's health (R9). -/
inductive Health where
  | ok | failToClose | failToOpen
deriving DecidableEq, Repr

/-- A record of the feeder table (R6). `confirming` says that the open confirmation time of R13 is running. -/
structure Feeder where
  number : Nat
  sect : Nat
  node : Nat
  breaker : Breaker := .unknown
  ownRelease : Option Byte := none
  order : FeederOrder := .idle
  orderStart : Option Stamp := none
  confirming : Bool := false
  health : Health := .ok
  latch : Bool := false
deriving DecidableEq, Repr

/-- The phase of a test unit (R63): NONE, ORDERED, INJECTING or STOPPING. -/
inductive TestPhase where
  | idle | ordered | injecting | stopping
deriving DecidableEq, Repr

/-- A test unit record (R63). -/
structure TestUnit where
  number : Nat
  node : Nat
  rTest : Nat
  queue : List Nat := []
  testNumber : Byte := 0
  phase : TestPhase := .idle
  orderedAt : Option Time := none
deriving DecidableEq, Repr

/-- The causes of a trip (R15). -/
inductive TripCause where
  | rise | overcurrent | saturation | ownRelease | unexpectedOpen
deriving DecidableEq, Repr

/-- The outcome of a trip record (R55). -/
inductive TripOutcome where
  | reclosed
  | lockedOut (reason : LockReason)
  | cancelled
deriving DecidableEq, Repr

/-- The figures of a trip and the pre-trip samples, oldest first (R42, R53). -/
structure TripFigures where
  current : Option Int
  peak : Int
  deltaI : Int
  k : Nat
  limit : Nat
  vehicles : Nat
  samples : List Int
deriving DecidableEq, Repr

/-- The second cause of a trip record (R51). -/
structure SecondCause where
  feeder : Nat
  cause : TripCause
deriving DecidableEq, Repr

/-- A trip record (R52). `watching` is the suspect watch of R54; `referenced` says that the record is the one its section
keeps a reference to while it is TRIPPED (R51). -/
structure TripRecord where
  time : Stamp
  sect : Nat
  feeder : Nat
  cause : TripCause
  second : Option SecondCause := none
  figures : TripFigures
  intertripped : Option Nat
  present : List Nat
  presentCount : Nat
  suspect : Option Nat
  outcome : Option TripOutcome := none
  read : Bool := false
  watching : Bool
  referenced : Bool
deriving DecidableEq, Repr

/-- Adoption after reset (R27, R28): waiting for the end of discovery, running to its deadline, or over. -/
inductive Adoption where
  | waiting
  | running (since : Time)
  | over
deriving DecidableEq, Repr

/-- The Section Controller's state. `emergency` is the debounced EMERGENCY_OPEN input (R25). -/
structure SectionControl where
  emergency : Bool := false
  adoption : Adoption := .waiting
  sections : List Section := []
  feeders : List Feeder := []
  testUnits : List TestUnit := []
  trips : List TripRecord := []
deriving DecidableEq, Repr

/-! ## Protection (02) -/

/-- The eight protection settings of a feeder (R30). -/
structure ProtectionSettings where
  dStart : Nat
  dHold : Nat
  kMin : Nat
  kMax : Nat
  lBase : Nat
  aVeh : Nat
  iOv : Nat
  nOv : Nat
deriving DecidableEq, Repr

/-- The status of a discrimination context (R29). -/
inductive ContextStatus where
  | idle | armed | blind
deriving DecidableEq, Repr

/-- A feeder's discrimination context (R29), its settings (R30) and its pre-trip buffer, oldest first (R34). -/
structure Context where
  number : Nat
  settings : ProtectionSettings
  status : ContextStatus := .idle
  rising : Bool := false
  iPrev : Option Int := none
  vLast : Option Nat := none
  iBase : Int := 0
  k : Nat := 0
  limit : Nat := 0
  nRise : Nat := 0
  peak : Int := 0
  ov : Nat := 0
  sat : Nat := 0
  miss : Nat := 0
  latch : Bool := false
  buffer : List Int := []
deriving DecidableEq, Repr

/-! ## Switch points (04) -/

/-- The two legs of a switch point. -/
inductive Leg where
  | straight | turn
deriving DecidableEq, Repr

/-- The states of a switch point (R73). -/
inductive SwitchState where
  | set | moving | uncertain | fault
deriving DecidableEq, Repr

/-- The fault reasons of a switch point (R94). -/
inductive FaultReason where
  | discrepancy | throwTimeout | contactsBoth | passageWhileMoving | dewirement
deriving DecidableEq, Repr

/-- Who asked for a request (R77). -/
inductive RequestOrigin where
  | route | default | station
deriving DecidableEq, Repr

/-- A request of a switch queue (R77). -/
structure SwitchRequest where
  vehicle : Nat
  leg : Leg
  origin : RequestOrigin
  created : Stamp
  inPassage : Bool := false
deriving DecidableEq, Repr

/-- A throw under way (R73): its target, its start, and whether a good slot has arrived since. -/
structure Throw where
  target : Leg
  start : Time
  seen : Bool
deriving DecidableEq, Repr

/-- The signal aspects (R95). -/
inductive Aspect where
  | stop | proceedStraight | proceedTurn
deriving DecidableEq, Repr

/-- A record of the switch table (R73). `position = none` is UNKNOWN; T_throw is in tenths of a second. -/
structure SwitchPoint where
  number : Nat
  node : Nat
  supply : Nat
  defaultLeg : Leg
  tThrow : Nat
  hold : Bool
  position : Option Leg := none
  state : SwitchState := .uncertain
  fault : Option FaultReason := none
  zone : Nat := 0
  queue : List SwitchRequest := []
  pin : Option Leg := none
  throw : Option Throw := none
  discrepancy : Nat := 0
  entries : Byte := 0
  exits : Byte := 0
  dewirements : Byte := 0
  baseline : Bool := false
  aspect : Aspect := .stop
  headSince : Option Time := none
  holdLong : Bool := false
deriving DecidableEq, Repr

/-! ## Vehicles (05) -/

/-- The kinds of vehicle fault (R101). -/
inductive FaultKind where
  | insulation | dewired | regenOvervolt | traction | poleHead | auxSupply
deriving DecidableEq, Repr

/-- The severity of a vehicle fault (R101). -/
inductive Severity where
  | minor | major
deriving DecidableEq, Repr

/-- The source of a fault entry (R101). -/
inductive FaultSource where
  | vehicle | wayside
deriving DecidableEq, Repr

/-- A fault entry of a vehicle record (R101). -/
structure FaultEntry where
  kind : FaultKind
  severity : Severity
  source : FaultSource
  firstSeen : Stamp
  lastSeen : Stamp
deriving DecidableEq, Repr

/-- The pole state a vehicle reports (R100). -/
inductive Pole where
  | unknown | onWire | down
deriving DecidableEq, Repr

/-- A vehicle record (R100). -/
structure Vehicle where
  number : Nat
  inSight : Bool
  sect : Option Nat
  lastBeacon : Nat
  lastSeen : Stamp
  route : Nat
  pole : Pole
  faults : List FaultEntry := []
deriving DecidableEq, Repr

/-- A beacon record (R102). `reportsHeld` is the Ring Controller's pending count of R141. -/
structure Beacon where
  number : Nat
  node : Nat
  sect : Nat
  approach : List Nat
  lastReport : Option Byte := none
  reportsHeld : Nat := 0
deriving DecidableEq, Repr

/-- The Vehicle Register: vehicles in order of creation, beacons in order of number. -/
structure VehicleRegister where
  vehicles : List Vehicle := []
  beacons : List Beacon := []
deriving DecidableEq, Repr

/-! ## The ring (06) -/

/-- Kinds of field unit (R133). -/
inductive NodeKind where
  | feederUnit | switchUnit | beaconUnit | testUnit | other
deriving DecidableEq, Repr

/-- Kinds of role (R121). -/
inductive RoleKind where
  | feeder | switch | beacon
deriving DecidableEq, Repr

/-- A role: its kind and index (R133). -/
structure Role where
  kind : RoleKind
  index : Nat
deriving DecidableEq, Repr

/-- States of a node (R133). -/
inductive NodeState where
  | present | silent | missing | foreign
deriving DecidableEq, Repr

/-- An entry of the node table (R133). -/
structure Node where
  identity : Nat
  kind : NodeKind
  role : Option Role
  posA : Option Nat
  posB : Option Nat
  state : NodeState
  missRun : Nat := 0
  unitStatus : Option Nat := none
  statusAt : Option Stamp := none
deriving DecidableEq, Repr

/-- A node of the installed map, in map order (R136, R172). -/
structure MapNode where
  identity : Nat
  kind : NodeKind
  role : Option Role
deriving DecidableEq, Repr

/-- Port modes (R123). -/
inductive PortMode where
  | openMode | shut | auto | autoShut
deriving DecidableEq, Repr

/-- A port of the ring (R123, R126, R127). `number` is the number of the last telegram sent; `unreturned` says that the
telegram of the present period has not come back good; `telegram` is what the port sent in the present period. -/
structure Port where
  mode : PortMode := .auto
  linkUp : Bool := false
  latch : Bool := false
  sentLast : Bool := false
  number : Byte := 255
  outstanding : Option Byte := none
  unreturned : Bool := false
  telegram : List Byte := []
  unitsPassed : Option Nat := none
  sent : Nat := 0
  badCheck : Nat := 0
  stale : Nat := 0
  lost : Nat := 0
  lastFetch : Option Nat := none
deriving DecidableEq, Repr

/-- Ring states (R138). -/
inductive RingState where
  | starting | ring | line | down
deriving DecidableEq, Repr

/-- The shape of a discovery (R135). -/
inductive Shape where
  | undecided | closed | opened
deriving DecidableEq, Repr

/-- A unit found by step 1 of discovery (R134). -/
structure Found where
  position : Nat
  identity : Nat
  kind : NodeKind
deriving DecidableEq, Repr

/-- Discovery on one side of the ring: complete groups 0..3 and units found (R134); in step 2, whether the role removal is
done and the identities whose role is still to be given (R136). -/
structure Side where
  groups : List Nat := []
  found : List Found := []
  removed : Bool := false
  todo : List Nat := []
deriving DecidableEq, Repr

/-- A running discovery (R134 to R137). `table` is the new node table, present in step 2. -/
structure Discovery where
  shape : Shape := .undecided
  sideA : Side := {}
  sideB : Side := {}
  table : Option (List Node) := none
deriving DecidableEq, Repr

/-- The Ring Controller's state. `serviceEntry` is the index of the entry the service parcel of the present period went to
(R140). -/
structure Ring where
  state : RingState := .starting
  a : Port := {}
  b : Port := {}
  recovery : Bool := false
  darkRun : Nat := 0
  goodSeen : Bool := false
  running : Bool := false
  roleSent : Bool := false
  settledFeeders : List Nat := []
  settledSwitches : List Nat := []
  settledBeacons : List Nat := []
  testSent : List Nat := []
  testServed : List Nat := []
  roleTurn : Bool := true
  roleLast : Option Nat := none
  statusLast : Option Nat := none
  serviceEntry : Option Nat := none
  nodes : List Node := []
  discovery : Option Discovery := some {}
deriving DecidableEq, Repr

/-! ## Conditions (07) -/

/-- The 24 condition kinds, in the order of their codes (R144, 10.1). -/
inductive CondKind where
  | trip | lockout | breakerFail | protectionBlind | switchFault | misroute | emergency | ringDown | ringOpen
  | nodeMissing | nodeSilent | roleConflict | holdLong | switchQueueFull | vehicleFault | vehicleTableFull
  | tripRecordOverrun | autonomous | mapInvalid | nodeForeign | contactSequence | vehicleEvicted | pinsReleased
  | conditionOverflow
deriving DecidableEq, Repr

/-- The cause of a level condition (R144). -/
inductive Cause where
  | holding | ended
deriving DecidableEq, Repr

/-- An entry of the condition set (R144); `cause` is absent for an edge kind. -/
structure CondEntry where
  kind : CondKind
  subject : Nat
  first : Stamp
  last : Stamp
  count : Nat
  cause : Option Cause
deriving DecidableEq, Repr

/-- The Condition Unit: the set, the overflow entry, the enables by kind code, the ATTENTION output (true when it is driven
low) and the start of the host silence timer while it runs. -/
structure ConditionUnit where
  entries : List CondEntry := []
  overflow : Option CondEntry := none
  enables : List Bool := []
  attention : Bool := false
  silence : Option Time := none
deriving DecidableEq, Repr

/-! ## The control link (08) -/

/-- The receive parser (R157): HUNTING, or READING with the bytes taken since the start marker. -/
inductive Parser where
  | hunting
  | reading (bytes : List Byte)
deriving DecidableEq, Repr

/-- A request frame (R156). -/
structure Request where
  kind : Byte
  tag : Byte
  body : List Byte
deriving DecidableEq, Repr

/-- The request being carried out across steps (R161): a store operation that has not finished, or a request whose reply
body waits for a free reply slot. -/
inductive Serving where
  | store (kind tag : Byte)
  | reply (kind tag : Byte) (body : List Byte)
deriving DecidableEq, Repr

/-- A frame of the outbound queue, in a notice slot or a reply slot (R163). -/
structure OutFrame where
  notice : Bool
  kind : Byte
  tag : Byte
  body : List Byte
deriving DecidableEq, Repr

/-- The Control Link Interface. `fast` is the rate in use (true for 460800 baud); the head of `outbound` is the frame being
sent; `sent` is the last frame that left TXD whole. -/
structure Link where
  fast : Bool := false
  parser : Parser := .hunting
  inbound : List Request := []
  serving : Option Serving := none
  outbound : List OutFrame := []
  discards : Nat := 0
  breaks : Nat := 0
  sent : List Byte := []
deriving DecidableEq, Repr

/-! ## The map store (09) -/

/-- The store's bytes: cells (address, byte) with address 256 * page + offset, strictly rising; an address without a cell
reads FFh (R166). -/
abbrev Memory := List Host.Cell

/-- A running store operation (R169, R170). -/
inductive StoreOp where
  | write (page : Nat) (data : List Byte) (start : Time)
  | erase (start : Time)
deriving DecidableEq, Repr

/-- The Map Store: the pages, the written marks of pages 1 to 63, and the operation that keeps it busy (R166, R171).
`cutShort` is the model's own (log 10): the draw of the operation a reset cut short, kept until a map erase completes; while it
stands the map fails validation (R166). -/
structure Store where
  mem : Memory := []
  written : List Nat := []
  busy : Option StoreOp := none
  cutShort : Option Nat := none
deriving DecidableEq, Repr

/-- A route entry of the map (R111). -/
structure RouteEntry where
  code : Nat
  switch : Nat
  leg : Leg
deriving DecidableEq, Repr

/-- What the installed map gives to the whole part (R172, R176). Times are in seconds. -/
structure Installed where
  valid : Bool := false
  version : Nat := 0
  tHold : Nat := 0
  tReq : Nat := 0
  tSight : Nat := 0
  tSilence : Nat := 10
  routes : List RouteEntry := []
  nodes : List MapNode := []
deriving DecidableEq, Repr

/-! ## The whole part -/

/-- The state of the part. `pending` (the waiting commands) and `draws` (free values used so far) are the model's own. -/
structure State where
  pending : List Instr
  draws : Nat
  time : TimeBase
  map : Installed
  sec : SectionControl
  prot : List Context
  switches : List SwitchPoint
  reg : VehicleRegister
  ring : Ring
  cond : ConditionUnit
  link : Link
  store : Store
deriving DecidableEq, Repr

/-- Why the part could stop with a fault. The manual gives the part no such stop, and no command of the model answers
with one. -/
inductive Fault where
  /-- Reserved for an access outside the store's 64 pages; page numbers are checked before use, so nothing raises it.
  Safe. -/
  | outsideStore
deriving DecidableEq, Repr

/-- Why a command could be refused. -/
inductive Refusal where
  /-- Raised by `exec` alone for a row without a meaning; safe. No row of this model is refused. -/
  | notModelled (mnemonic : String)
deriving DecidableEq, Repr

/-- The factory page (R167, 10.6): the part code GK3240 at offsets 0 to 5; revision (6), serial number (7 to 10) and
time-base trim (11) are DESIGN CHOICE 0 (log 11); the other bytes read FFh. -/
def factoryPage : Memory :=
  [(0, 0x47#8), (1, 0x4B#8), (2, 0x33#8), (3, 0x32#8), (4, 0x34#8), (5, 0x30#8), (6, 0#8), (7, 0#8), (8, 0#8),
    (9, 0#8), (10, 0#8), (11, 0#8)]

/-- The enables while no valid map is installed (R149): ALARM and WARNING kinds on, INFO kinds off. -/
def defaultEnables : List Bool :=
  [true, true, true, true, true, true, true, true, true, true, true, true, true, true, true, true, true, true, true,
    false, false, false, false, false]

/-- The part right after a reset that found an erased map (R176): empty tables, discovery running, MAP_INVALID raised with
its notice queued and ATTENTION asserted, the host silence timer started at part time 0. The link states and the RATE
strap sensed are DESIGN CHOICES of this state (log 11); the RESET command carries them. -/
def State.reset : State where
  pending := []
  draws := 0
  time := {}
  map := {}
  sec := {}
  prot := []
  switches := []
  reg := {}
  ring := {}
  cond :=
    { entries := [{ kind := .mapInvalid, subject := 0, first := { t := 0 }, last := { t := 0 }, count := 1,
                    cause := some .holding }]
      enables := defaultEnables
      attention := true
      silence := some 0 }
  link := { outbound := [{ notice := true, kind := 0x70, tag := 0, body := [19, 0, 0, 0, 0, 0, 0] }] }
  store := { mem := factoryPage }

end Sys2Proof.Machine
end

