-- ==== Sys2Proof/Machine/Ops.lean ====
section
/-! DEFINITION. The shared operations: times and ages (R1), byte order (10), the store's memory (R166), the check values of
frames and telegrams (R156, 10.5), and the updates of one record of one table of State. -/

namespace Sys2Proof.Machine

/-! ## Times (R1) -/

/-- Milliseconds from `start` to `now`, as the difference modulo 2^32 (R1). -/
def elapsed (now start : Time) : Nat := (now - start).toNat

/-- A timer started at `start` has run for `ms` milliseconds or more (R1). -/
def timeUp (now start : Time) (ms : Nat) : Bool := decide (ms ≤ elapsed now start)

/-- A timer that may not be running. -/
def timeUp? (now : Time) (start : Option Time) (ms : Nat) : Bool :=
  match start with
  | some t => timeUp now t ms
  | none => false

/-- The present part time as a fresh timestamp. -/
def State.stamp (s : State) : Stamp := { t := s.time.now }

/-- A timestamp lies less than `ms` milliseconds back; an aged one lies within no stated span (R1). -/
def Stamp.lessThanAgo (now : Time) (ms : Nat) (x : Stamp) : Bool := !x.aged && decide (elapsed now x.t < ms)

/-- A timestamp lies at most `ms` milliseconds back (R1). -/
def Stamp.within (now : Time) (ms : Nat) (x : Stamp) : Bool := !x.aged && decide (elapsed now x.t ≤ ms)

/-- `x` is older than `y`: an aged timestamp is older than every one that is not, and as old as every other aged one (R1). -/
def Stamp.olderThan (now : Time) (x y : Stamp) : Bool :=
  match x.aged, y.aged with
  | true, true => false
  | true, false => true
  | false, true => false
  | false, false => decide (elapsed now y.t < elapsed now x.t)

/-- The mark of R1: a timestamp whose difference from part time has reached 2^31 ms is marked aged and keeps its value. -/
def Stamp.ageAt (now : Time) (x : Stamp) : Stamp :=
  if decide (2147483648 ≤ elapsed now x.t) then { x with aged := true } else x

/-- The age mark for a timestamp that is not the start of a running timer. -/
def Stamp.ageUnless (running : Bool) (now : Time) (x : Stamp) : Stamp := if running then x else x.ageAt now

/-! ## Byte order (10: low byte first throughout) -/

/-- One byte of a number. -/
def u8 (n : Nat) : Byte := BitVec.ofNat 8 n

/-- A number in two bytes, low byte first. -/
def le16 (n : Nat) : List Byte := [u8 n, u8 (n / 256)]

/-- A number in four bytes, low byte first. -/
def le32 (n : Nat) : List Byte := [u8 n, u8 (n / 256), u8 (n / 65536), u8 (n / 16777216)]

/-- The number two bytes hold, the first being the low one. -/
def num16 (lo hi : Byte) : Nat := lo.toNat + 256 * hi.toNat

/-- The signed number two bytes hold, in two's complement. -/
def int16 (lo hi : Byte) : Int := (hi ++ lo : BitVec 16).toInt

/-- A signed number in two bytes, two's complement, low byte first. -/
def leSigned (i : Int) : List Byte := le16 (BitVec.ofInt 16 i).toNat

/-! ## Check values -/

/-- `f` applied `n` times. -/
def iter {α : Type} (f : α → α) : Nat → α → α
  | 0, x => x
  | n + 1, x => iter f n (f x)

/-- One bit of the CRC-16 of R156: shift left, and add the generator 1021h when a one is shifted out. -/
def crc16Bit (c : BitVec 16) : BitVec 16 := if c.msb then (c <<< 1) ^^^ 0x1021#16 else c <<< 1

/-- One byte of the CRC-16, most significant bit first (R156). -/
def crc16Byte (c : BitVec 16) (b : Byte) : BitVec 16 := iter crc16Bit 8 (c ^^^ (b.setWidth 16 <<< 8))

/-- The CRC-16 of R156: generator 1021h, register started at FFFFh, no final inversion. -/
def crc16 (bytes : List Byte) : BitVec 16 := bytes.foldl crc16Byte 0xFFFF#16

/-- One bit of the CRC-32 of 10.5: shift left, and add the polynomial 04C11DB7h when the bit shifted out and the data bit
differ. -/
def crc32Bit (c : BitVec 32) (d : Bool) : BitVec 32 :=
  if c.msb != d then (c <<< 1) ^^^ 0x04C11DB7#32 else c <<< 1

/-- One byte of the CRC-32, least significant bit first (10.5). -/
def crc32Byte (c : BitVec 32) (b : Byte) : BitVec 32 :=
  [b.getLsbD 0, b.getLsbD 1, b.getLsbD 2, b.getLsbD 3, b.getLsbD 4, b.getLsbD 5, b.getLsbD 6, b.getLsbD 7].foldl crc32Bit c

/-- The end check of 10.5: register started at FFFFFFFFh, finally reflected (bit 31 becoming bit 0) and inverted. -/
def crc32 (bytes : List Byte) : BitVec 32 := ~~~(bytes.foldl crc32Byte 0xFFFFFFFF#32).reverse

/-! ## The store's memory (R166) -/

/-- What a byte reads as that no cell lists: FFh, as an ERASED page does (R166, 10.6). -/
def erasedByte : Byte := 0xFF

/-- The byte at an address. -/
def readByte : Memory → Nat → Byte
  | [], _ => erasedByte
  | (a, b) :: rest, x => if x = a then b else readByte rest x

/-- Programs one byte, keeping the canonical form: rising addresses, no cell that holds FFh. -/
def writeByte : Memory → Nat → Byte → Memory
  | [], x, v => if v = erasedByte then [] else [(x, v)]
  | (a, b) :: rest, x, v =>
    if x < a then (if v = erasedByte then (a, b) :: rest else (x, v) :: (a, b) :: rest)
    else if x = a then (if v = erasedByte then rest else (x, v) :: rest)
    else (a, b) :: writeByte rest x v

/-- Programs bytes in ascending order from an address (R166). -/
def writeBytes (m : Memory) (at' : Nat) : List Byte → Memory
  | [] => m
  | b :: rest => writeBytes (writeByte m at' b) (at' + 1) rest

/-- `n` bytes from an address upward. -/
def readBytes (m : Memory) (at' : Nat) : Nat → List Byte
  | 0 => []
  | n + 1 => readByte m at' :: readBytes m (at' + 1) n

/-- The addresses of a memory rise strictly from `lo` and no cell holds FFh. -/
def cellsRise (lo : Nat) : Memory → Bool
  | [] => true
  | (a, b) :: rest => decide (lo ≤ a) && b != erasedByte && cellsRise (a + 1) rest

/-- The canonical form of the store's memory, within its 64 pages. -/
def Memory.wf (m : Memory) : Bool := cellsRise 0 m && m.all (fun c => decide (c.1 < 16384))

/-- Erases pages 1 to 63: every byte from address 256 on reads FFh (R170). -/
def erasePages (m : Memory) : Memory := m.filter (fun c => decide (c.1 < 256))

/-- Erases, of pages 1 to 63, the bytes that a choice says were reached (R166: an erase cut short by reset). -/
def erasePartly (erased : Nat → Bool) (m : Memory) : Memory := m.filter (fun c => decide (c.1 < 256) || !erased c.1)

/-! ## Lists -/

/-- Changes the records of a list that a test picks. -/
def modWhere {α : Type} (p : α → Bool) (f : α → α) (l : List α) : List α := l.map fun x => if p x then f x else x

/-- Changes the first record of a list that a test picks. -/
def modFirst {α : Type} (p : α → Bool) (f : α → α) : List α → List α
  | [] => []
  | x :: rest => if p x then f x :: rest else x :: modFirst p f rest

/-- Removes the first record of a list that a test picks. -/
def dropFirst {α : Type} (p : α → Bool) : List α → List α
  | [] => []
  | x :: rest => if p x then rest else x :: dropFirst p rest

/-- Removes the record at an index. -/
def dropAt {α : Type} : Nat → List α → List α
  | _, [] => []
  | 0, _ :: rest => rest
  | n + 1, x :: rest => x :: dropAt n rest

/-- Inserts a record into a list that rises by a key. -/
def insertBy {α : Type} (key : α → Nat) (x : α) : List α → List α
  | [] => [x]
  | y :: rest => if key x < key y then x :: y :: rest else y :: insertBy key x rest

/-- A list in order of a key, records of one key in their old order. -/
def sortBy {α : Type} (key : α → Nat) (l : List α) : List α := l.foldl (fun acc x => insertBy key x acc) []

/-- The index, from 0, of the first record a test picks. -/
def indexWhere {α : Type} (p : α → Bool) : List α → Option Nat
  | [] => none
  | x :: rest => if p x then some 0 else (indexWhere p rest).map (· + 1)

/-- The numbers from `lo`, `n` of them. -/
def numbersFrom (lo : Nat) : Nat → List Nat
  | 0 => []
  | n + 1 => lo :: numbersFrom (lo + 1) n

/-- A list in another order: each number of the choice picks, modulo the length, the next record of those left; without
numbers the rest keeps its order. Every order of the list is the arrangement of some choice (log 9). -/
def arrange {α : Type} : List Nat → List α → List α
  | [], xs => xs
  | _ :: _, [] => []
  | i :: is, x :: xs =>
    match (x :: xs)[i % (xs.length + 1)]? with
    | some y => y :: arrange is (dropAt (i % (xs.length + 1)) (x :: xs))
    | none => x :: xs

/-- The largest of a list of numbers, 0 for none. -/
def maxOf (l : List Nat) : Nat := l.foldl max 0

/-- A count saturating at an upper limit (00: "Counts described as saturating"). -/
def satAdd (limit n : Nat) : Nat := if n < limit then n + 1 else limit

/-! ## Records of State -/

/-- The section of a number. -/
def State.section? (s : State) (n : Nat) : Option Section := s.sec.sections.find? (fun x => x.number == n)

/-- The feeder of a number. -/
def State.feeder? (s : State) (n : Nat) : Option Feeder := s.sec.feeders.find? (fun x => x.number == n)

/-- The discrimination context of a feeder. -/
def State.context? (s : State) (n : Nat) : Option Context := s.prot.find? (fun x => x.number == n)

/-- The test unit of a number. -/
def State.testUnit? (s : State) (n : Nat) : Option TestUnit := s.sec.testUnits.find? (fun x => x.number == n)

/-- The switch point of a number. -/
def State.switch? (s : State) (n : Nat) : Option SwitchPoint := s.switches.find? (fun x => x.number == n)

/-- The vehicle record of a number. -/
def State.vehicle? (s : State) (n : Nat) : Option Vehicle := s.reg.vehicles.find? (fun x => x.number == n)

/-- The beacon of a number. -/
def State.beacon? (s : State) (n : Nat) : Option Beacon := s.reg.beacons.find? (fun x => x.number == n)

/-- Changes one section record. -/
def State.modSection (s : State) (n : Nat) (f : Section → Section) : State :=
  { s with sec := { s.sec with sections := modWhere (fun x => x.number == n) f s.sec.sections } }

/-- Changes one feeder record. -/
def State.modFeeder (s : State) (n : Nat) (f : Feeder → Feeder) : State :=
  { s with sec := { s.sec with feeders := modWhere (fun x => x.number == n) f s.sec.feeders } }

/-- Changes one test unit record. -/
def State.modTestUnit (s : State) (n : Nat) (f : TestUnit → TestUnit) : State :=
  { s with sec := { s.sec with testUnits := modWhere (fun x => x.number == n) f s.sec.testUnits } }

/-- Changes the trip record list. -/
def State.modTrips (s : State) (f : List TripRecord → List TripRecord) : State :=
  { s with sec := { s.sec with trips := f s.sec.trips } }

/-- Changes one discrimination context. -/
def State.modContext (s : State) (n : Nat) (f : Context → Context) : State :=
  { s with prot := modWhere (fun x => x.number == n) f s.prot }

/-- Changes one switch record. -/
def State.modSwitch (s : State) (n : Nat) (f : SwitchPoint → SwitchPoint) : State :=
  { s with switches := modWhere (fun x => x.number == n) f s.switches }

/-- Changes one vehicle record. -/
def State.modVehicle (s : State) (n : Nat) (f : Vehicle → Vehicle) : State :=
  { s with reg := { s.reg with vehicles := modWhere (fun x => x.number == n) f s.reg.vehicles } }

/-- Changes the vehicle table. -/
def State.modVehicles (s : State) (f : List Vehicle → List Vehicle) : State :=
  { s with reg := { s.reg with vehicles := f s.reg.vehicles } }

/-- Changes one beacon record. -/
def State.modBeacon (s : State) (n : Nat) (f : Beacon → Beacon) : State :=
  { s with reg := { s.reg with beacons := modWhere (fun x => x.number == n) f s.reg.beacons } }

/-- Changes the Ring Controller's state. -/
def State.modRing (s : State) (f : Ring → Ring) : State := { s with ring := f s.ring }

/-- Changes the Condition Unit's state. -/
def State.modCond (s : State) (f : ConditionUnit → ConditionUnit) : State := { s with cond := f s.cond }

/-- Changes the Control Link Interface's state. -/
def State.modLink (s : State) (f : Link → Link) : State := { s with link := f s.link }

/-- Changes the Map Store's state. -/
def State.modStore (s : State) (f : Store → Store) : State := { s with store := f s.store }

/-- Does something for each number of a list, in its order. -/
def forEach {α : Type} (l : List α) (f : α → State → State) (s : State) : State := l.foldl (fun t x => f x t) s

/-! ## Node states (R182) -/

/-- The state of the node of an identity as the node table holds it; absent when no entry holds the identity (R182). -/
def State.nodeState? (s : State) (identity : Nat) : Option NodeState :=
  (s.ring.nodes.find? (fun x => x.identity == identity)).map (·.state)

/-- The node of an identity is PRESENT (R182: an identity without an entry is not). -/
def State.nodePresent (s : State) (identity : Nat) : Bool := s.nodeState? identity == some .present

/-- The vehicle count of a section: the IN_SIGHT vehicle records naming it (R113), counted at the moment of use. -/
def State.vehicleCount (s : State) (n : Nat) : Nat :=
  (s.reg.vehicles.filter (fun v => v.inSight && v.sect == some n)).length

end Sys2Proof.Machine
end

