-- ==== Sys2Proof/Machine/Flags.lean ====
section
/-! DEFINITION. The Condition Unit's shared operations (07): raising a condition, ending its cause, clearing entries, the
ATTENTION line and the notices. -/

namespace Sys2Proof.Machine

/-- The code of a condition kind (10.1: 1..24 in the order of the kinds table). -/
def CondKind.code : CondKind → Nat
  | .trip => 1 | .lockout => 2 | .breakerFail => 3 | .protectionBlind => 4 | .switchFault => 5 | .misroute => 6
  | .emergency => 7 | .ringDown => 8 | .ringOpen => 9 | .nodeMissing => 10 | .nodeSilent => 11 | .roleConflict => 12
  | .holdLong => 13 | .switchQueueFull => 14 | .vehicleFault => 15 | .vehicleTableFull => 16
  | .tripRecordOverrun => 17 | .autonomous => 18 | .mapInvalid => 19 | .nodeForeign => 20 | .contactSequence => 21
  | .vehicleEvicted => 22 | .pinsReleased => 23 | .conditionOverflow => 24

/-- The 24 kinds in the order of their codes. -/
def CondKind.all : List CondKind :=
  [.trip, .lockout, .breakerFail, .protectionBlind, .switchFault, .misroute, .emergency, .ringDown, .ringOpen,
    .nodeMissing, .nodeSilent, .roleConflict, .holdLong, .switchQueueFull, .vehicleFault, .vehicleTableFull,
    .tripRecordOverrun, .autonomous, .mapInvalid, .nodeForeign, .contactSequence, .vehicleEvicted, .pinsReleased,
    .conditionOverflow]

/-- The kind a code names. -/
def CondKind.ofCode (n : Nat) : Option CondKind := CondKind.all.find? (fun k => k.code == n)

/-- A level kind, whose cause holds or has ended; the others are edge kinds (R144's table of kinds). -/
def CondKind.isLevel : CondKind → Bool
  | .lockout | .breakerFail | .protectionBlind | .switchFault | .emergency | .ringDown | .ringOpen | .nodeMissing
  | .nodeSilent | .autonomous | .mapInvalid | .conditionOverflow => true
  | .trip | .misroute | .roleConflict | .holdLong | .switchQueueFull | .vehicleFault | .vehicleTableFull
  | .tripRecordOverrun | .nodeForeign | .contactSequence | .vehicleEvicted | .pinsReleased => false

/-- The set holds at most 48 ordinary entries (R144). -/
def conditionCapacity : Nat := 48

/-- There are 16 notice slots (R151). -/
def noticeSlots : Nat := 16

/-- The enable of a kind (R149). -/
def ConditionUnit.enabled (u : ConditionUnit) (k : CondKind) : Bool := (u.enables[k.code - 1]?).getD false

/-- The review of the ATTENTION line (R150): asserted exactly while the set holds an entry of an enabled kind. -/
def ConditionUnit.review (u : ConditionUnit) : ConditionUnit :=
  { u with attention := u.entries.any (fun e => u.enabled e.kind) || u.overflow.any (fun e => u.enabled e.kind) }

/-- An entry is the one of a kind and subject (R144). -/
def CondEntry.isOf (k : CondKind) (subject : Nat) (e : CondEntry) : Bool := e.kind == k && e.subject == subject

/-- A new entry of a kind and subject (R145). -/
def newEntry (at' : Stamp) (k : CondKind) (subject : Nat) : CondEntry :=
  { kind := k, subject := subject, first := at', last := at', count := 1
    cause := if k.isLevel then some .holding else none }

/-- A raise counted into an entry (R145). -/
def CondEntry.raisedAgain (at' : Stamp) (e : CondEntry) : CondEntry :=
  { e with count := satAdd 255 e.count, last := at', cause := if e.kind.isLevel then some .holding else e.cause }

/-- The NOTICE record of an entry (R151, 10.2): kind 70h, tag 00h; condition kind, subject, first raised time. -/
def noticeOf (e : CondEntry) : OutFrame :=
  { notice := true, kind := 0x70, tag := 0, body := u8 e.kind.code :: (le16 e.subject ++ le32 e.first.t.toNat) }

/-- A notice joins the notice slots when one is free and is dropped otherwise (R151). -/
def Link.queueNotice (l : Link) (e : CondEntry) : Link :=
  if (l.outbound.filter (·.notice)).length < noticeSlots then { l with outbound := l.outbound ++ [noticeOf e] } else l

/-- The notice of an entry just created, if its kind is enabled (R151). -/
def State.announceEntry (s : State) (e : CondEntry) : State :=
  if s.cond.enabled e.kind then s.modLink (·.queueNotice e) else s

/-- A new ordinary entry joins the end of the set, with its notice, and the line is reviewed (R145). -/
def State.addEntry (s : State) (e : CondEntry) : State :=
  (s.announceEntry e).modCond fun u => { u with entries := u.entries ++ [e] }.review

/-- A new overflow entry, with its notice, and the line is reviewed (R146). -/
def State.addOverflow (s : State) (e : CondEntry) : State :=
  (s.announceEntry e).modCond fun u => { u with overflow := some e }.review

/-- A raise reaches the Condition Unit (R145, R146). -/
def raise (k : CondKind) (subject : Nat) (s : State) : State :=
  if s.cond.entries.any (·.isOf k subject) then
    s.modCond fun u => { u with entries := modWhere (·.isOf k subject) (·.raisedAgain s.stamp) u.entries }
  else if s.cond.entries.length < conditionCapacity then
    s.addEntry (newEntry s.stamp k subject)
  else
    match s.cond.overflow with
    | none => s.addOverflow (newEntry s.stamp .conditionOverflow 0)
    | some e => s.modCond fun u => { u with overflow := some (e.raisedAgain s.stamp) }

/-- The report that a level cause has ended (R145): it changes the entry's cause and nothing else. -/
def endCause (k : CondKind) (subject : Nat) (s : State) : State :=
  s.modCond fun u =>
    { u with entries := modWhere (·.isOf k subject) (fun e => { e with cause := some .ended }) u.entries }

/-- The cause of CONDITION_OVERFLOW ends when the set holds fewer than 48 ordinary entries (R146). -/
def ConditionUnit.endOverflow (u : ConditionUnit) : ConditionUnit :=
  if u.entries.length < conditionCapacity then
    { u with overflow := u.overflow.map (fun e => { e with cause := some .ended }) }
  else u

/-- An ordinary entry leaves the set and does not come back: the overflow cause and the line follow (R146, R150). -/
def removeEntry (k : CondKind) (subject : Nat) (s : State) : State :=
  s.modCond fun u => ({ u with entries := u.entries.filter (fun e => !e.isOf k subject) }).endOverflow.review

/-- CLEAR_CONDITION of an ordinary entry (R147): removed, and created again at once when its cause holds. -/
def clearEntry (e : CondEntry) (s : State) : State :=
  if e.cause = some .holding then
    (s.modCond fun u => { u with entries := u.entries.filter (fun x => !x.isOf e.kind e.subject) }).addEntry
      (newEntry s.stamp e.kind e.subject)
  else removeEntry e.kind e.subject s

/-- CLEAR_CONDITION of the overflow entry (R147): its cause decides. One whose cause has ended is removed, even when the set has
filled to 48 again since without a lost raise (DESIGN CHOICE, log 48). -/
def clearOverflow (e : CondEntry) (s : State) : State :=
  if e.cause = some .holding then s.addOverflow (newEntry s.stamp .conditionOverflow 0)
  else s.modCond fun u => { u with overflow := none }.review

/-- CLEAR_CONDITION ALL (R148): every entry goes, and each level entry whose cause held is created again, in the old order. -/
def clearAll (s : State) : State :=
  forEach (s.cond.entries.filter (fun e => e.cause = some .holding))
    (fun e t => t.addEntry (newEntry s.stamp e.kind e.subject))
    (s.modCond fun u => { u with entries := [], overflow := none }.review)

end Sys2Proof.Machine
end

