-- ==== Sys2Proof/Machine/Link.lean ====
section
/-! DEFINITION. The Control Link Interface's shared operations (08): frames and their check, the receive parser, the
inbound queue, the reply slots, and how one request is carried out. -/

namespace Sys2Proof.Machine

/-- The start marker of a frame (R156). -/
def startMarker : Byte := 0xC3

/-- The longest body of a frame (R156). -/
def maxBody : Nat := 480

/-- The inbound queue holds up to 4 request frames (R160). -/
def inboundCapacity : Nat := 4

/-- There are 4 reply slots (R163). -/
def replySlots : Nat := 4

/-- The limit of a 16-bit saturating counter (R127, R164). -/
def counterLimit : Nat := 65535

/-- The bytes a frame's check covers: length, kind, tag and body (R156). -/
def frameCovered (kind tag : Byte) (body : List Byte) : List Byte := le16 body.length ++ kind :: tag :: body

/-- A frame as it stands on the line (R156): start marker, length, kind, tag, body and check, low bytes first. -/
def frameBytes (kind tag : Byte) (body : List Byte) : List Byte :=
  startMarker :: (frameCovered kind tag body ++ le16 (crc16 (frameCovered kind tag body)).toNat)

/-- The kind of a reply: the request's kind plus 80h, modulo 256 (R162). -/
def replyKind (kind : Byte) : Byte := kind + 0x80

/-! ## Slots (R163) -/

/-- A reply slot is free. -/
def Link.replySlotFree (l : Link) : Bool := decide ((l.outbound.filter (fun f => !f.notice)).length < replySlots)

/-- A reply enters a reply slot at the end of the sending order. -/
def Link.pushReply (l : Link) (kind tag : Byte) (body : List Byte) : Link :=
  { l with outbound := l.outbound ++ [{ notice := false, kind := replyKind kind, tag := tag, body := body }] }

/-- The reply of a request that has been carried out: it enters a free reply slot, and the request leaves the head of the
queue; if no slot is free, the request stays at the head with its reply waiting (R161). -/
def Link.answer (l : Link) (kind tag : Byte) (body : List Byte) : Link :=
  if l.replySlotFree then { l.pushReply kind tag body with serving := none }
  else { l with serving := some (.reply kind tag body) }

/-- The frames the inbound queue holds: the request being carried out, at its head, and those behind it (R160). -/
def Link.queued (l : Link) : Nat := l.inbound.length + (if l.serving.isSome then 1 else 0)

/-! ## Carrying out a request (R161) -/

/-- A request handed to its owner: the state after it and the reply body, or no reply yet for a store operation that takes
time. -/
abbrev Handler := State → State × Option (List Byte)

/-- Carries out a request of a kind and tag: its owner's effect, then its reply, or the request held at the head until the
store reports that it has finished (R161). -/
def carryOut (kind tag : Byte) (h : Handler) (s : State) : State :=
  match h s with
  | (t, some body) => t.modLink (·.answer kind tag body)
  | (t, none) => t.modLink fun l => { l with serving := some (.store kind tag) }

/-- A request can be started: no other request is being carried out, and the queue behind it holds at most three frames, so
that the queue with it at its head holds at most four (R160, R161). -/
def Link.canServe (l : Link) : Bool := l.serving.isNone && decide (l.inbound.length < inboundCapacity)

/-- A request row: the request stands at the head of the queue and is started, unless another request is being carried out
(R161), in which case it is not taken (log 5). -/
def serve (kind tag : Byte) (h : Handler) (s : State) : State :=
  if s.link.canServe then carryOut kind tag h s else s

/-! ## The receive parser (R157, R158) -/

/-- A frame was discarded: the discard counter is raised and the parser hunts (R158, R164). -/
def Link.discard (l : Link) : Link := { l with parser := .hunting, discards := satAdd counterLimit l.discards }

/-- What the bytes taken since the start marker amount to (R157, R158). -/
inductive FrameScan where
  | more
  | bad
  | good (r : Request)
deriving DecidableEq, Repr

/-- A whole frame from its bytes after the start marker, when its check is right (R156). -/
def scanWhole (kind tag : Byte) (covered : List Byte) (body check : List Byte) : FrameScan :=
  if check = le16 (crc16 covered).toNat then .good { kind := kind, tag := tag, body := body } else .bad

/-- Reads the bytes taken since the start marker: the length is checked at the second length byte, the check value at the
second check byte (R158). -/
def scanFrame (bytes : List Byte) : FrameScan :=
  match bytes with
  | lo :: hi :: rest =>
    if maxBody < num16 lo hi then .bad
    else if rest.length < num16 lo hi + 4 then .more
    else
      match rest with
      | kind :: tag :: tail =>
        scanWhole kind tag (bytes.take (num16 lo hi + 4)) (tail.take (num16 lo hi)) (tail.drop (num16 lo hi))
      | _ => .more
  | _ => .more

/-- A valid frame joins the inbound queue; with the queue full it is answered BUSY at once in a free reply slot, or counted as
a discard when no slot is free (R160). -/
def Link.accept (l : Link) (r : Request) : Link :=
  if l.queued < inboundCapacity then { l with inbound := l.inbound ++ [r] }
  else if l.replySlotFree then l.pushReply r.kind r.tag [0x06]
  else { l with discards := satAdd counterLimit l.discards }

/-- The host silence timer is restarted from the present part time; with T_silence 0 no timer runs (R153). -/
def State.restartSilence (s : State) : State :=
  s.modCond fun u => { u with silence := if s.map.tSilence = 0 then none else some s.time.now }

/-- A valid frame arrives: the silence timer is restarted, the cause of AUTONOMOUS ends, and the frame is handed on, whatever
its kind (R153, R154, R157, R160). -/
def takeFrame (r : Request) (s : State) : State :=
  ((endCause .autonomous 0 s.restartSilence).modLink fun l => { l with parser := .hunting }).modLink (·.accept r)

/-- One character reaches the parser in READING (R157, R158). -/
def readChar (bytes : List Byte) (c : RxChar) (s : State) : State :=
  if c.fault then s.modLink (·.discard)
  else
    match scanFrame (bytes ++ [c.value]) with
    | .more => s.modLink fun l => { l with parser := .reading (bytes ++ [c.value]) }
    | .bad => s.modLink (·.discard)
    | .good r => takeFrame r s

/-- One character reaches the parser (R155, R157): in HUNTING only a start marker without a framing fault counts. -/
def receiveChar (c : RxChar) (s : State) : State :=
  match s.link.parser with
  | .hunting =>
    if !c.fault && c.value == startMarker then s.modLink fun l => { l with parser := .reading [] } else s
  | .reading bytes => readChar bytes c s

/-- The characters that arrived, one after another. -/
def receive (chars : List RxChar) (s : State) : State := forEach chars receiveChar s

/-- A gap of more than 5 ms after the last character: a frame in READING is discarded (R158). The gap is found by the command
INTER_CHARACTER_GAP alone: the state keeps no time of the last character (DESIGN CHOICE, log 60). -/
def characterGap (s : State) : State :=
  match s.link.parser with
  | .hunting => s
  | .reading _ => s.modLink (·.discard)

/-- The notices a break removes (R159): all but one whose transmission has begun, which is the head of the sending order. -/
def breakOutbound : List OutFrame → List OutFrame
  | [] => []
  | head :: rest => head :: rest.filter (fun f => !f.notice)

/-- A break (R159): the parser hunts, the requests not yet started and the notices not being sent are removed, and the break
counter is raised. The space has opened a character with a framing fault, so a frame in READING is discarded first
(log 7). -/
def takeBreak (s : State) : State :=
  (receiveChar { value := 0, fault := true } s).modLink fun l =>
    { l with parser := .hunting, inbound := [], outbound := breakOutbound l.outbound
             breaks := satAdd counterLimit l.breaks }

end Sys2Proof.Machine
end

