-- ==== Sys2Proof/Machine/Protection.lean ====
section
/-! DEFINITION. The Protection Unit (02): sample intake, the six steps on an ordinary sample, missed samples, and what a
context does when its section's state or its latch changes. -/

namespace Sys2Proof.Machine

/-- The clamp of the sample intake (R34). -/
def clampLimit : Int := 6000

/-- The pre-trip buffer holds 16 samples (R29). -/
def bufferLength : Nat := 16

/-- Eight missed samples in a row make a context blind, and the next good one a resynchronising sample (R36, R44). -/
def blindMisses : Nat := 8

/-- Two consecutive samples at the clamp trip (R41). -/
def saturationTrip : Nat := 2

/-- A clamped current (R34). -/
def clampCurrent (i : Int) : Int := if clampLimit < i then clampLimit else if i < -clampLimit then -clampLimit else i

/-- The buffer takes its newest entry and drops the oldest when all positions are full (R34). -/
def pushSample (i : Int) (l : List Int) : List Int := (l ++ [i]).drop (l.length + 1 - bufferLength)

/-- The increment limit of a rise: the smaller of 6000 and L_base + A_veh * m, m counting at most six vehicles (R37). -/
def incrementLimit (p : ProtectionSettings) (vehicles : Nat) : Nat := min 6000 (p.lBase + p.aVeh * min vehicles 6)

/-- The context becomes IDLE (R31): no rise, no runs, the figures of the last rise 0; I_prev, V_last and miss are kept. -/
def Context.goIdle (c : Context) : Context :=
  { c with status := .idle, rising := false, iBase := 0, k := 0, limit := 0, nRise := 0, peak := 0, ov := 0, sat := 0 }

/-- The context is armed (R32). -/
def Context.arm (c : Context) : Context := { c with status := .armed, rising := false, ov := 0, sat := 0 }

/-- Every good sample sets V_last and enters the buffer, before it is handled by status (R34). -/
def Context.intake (i : Int) (v : Nat) (c : Context) : Context :=
  { c with vLast := some v, buffer := pushSample (clampCurrent i) c.buffer }

/-- The difference of step 1 (R37). -/
def Context.difference (c : Context) (i : Int) : Int := i - c.iPrev.getD 0

/-- Step 2 (R37): a QUIET context starts a rise on a step of D_start or more. -/
def Context.startRise (vehicles : Nat) (i : Int) (c : Context) : Context :=
  if (c.settings.dStart : Int) ≤ c.difference i then
    { c with rising := true, iBase := c.iPrev.getD 0, nRise := vehicles
             limit := incrementLimit c.settings vehicles, k := 1, peak := i }
  else c

/-- Step 3a (R38): a rise goes on by one sample. -/
def Context.extendRise (i : Int) (c : Context) : Context := { c with k := c.k + 1, peak := max c.peak i }

/-- The test of step 3b (R37, R38): the increment has reached L and the rise spans K_min samples. -/
def Context.riseTrips (i : Int) (c : Context) : Bool :=
  c.rising && decide ((c.limit : Int) ≤ i - c.iBase) && decide (c.settings.kMin ≤ c.k)

/-- The rise ends (R38). -/
def Context.endRise (c : Context) : Context := { c with rising := false }

/-- Steps 2 and 3 (R37, R38): the context after them and whether the sample trips with cause RISE. -/
def Context.riseStep (vehicles : Nat) (i : Int) (c : Context) : Context × Bool :=
  if c.rising then
    let r := c.extendRise i
    if c.difference i < (c.settings.dHold : Int) then (r.endRise, false)
    else if r.riseTrips i then (r, true)
    else if c.settings.kMax ≤ r.k then (r.endRise, false)
    else (r, false)
  else
    let r := c.startRise vehicles i
    (r, r.riseTrips i)

/-- Step 4 (R40): the overcurrent run. -/
def Context.overcurrentStep (i : Int) (c : Context) : Context :=
  { c with ov := if (c.settings.iOv : Int) ≤ i then min (c.ov + 1) c.settings.nOv else 0 }

/-- Step 5 (R41): the saturation run. -/
def Context.saturationStep (i : Int) (c : Context) : Context :=
  { c with sat := if clampLimit ≤ i then min (c.sat + 1) saturationTrip else 0 }

/-- Step 6 (R41). -/
def Context.updateStep (i : Int) (c : Context) : Context := { c with iPrev := some i, miss := 0, status := .armed }

/-- The context after the six steps of an ordinary sample (R37 to R41). -/
def Context.sixSteps (vehicles : Nat) (i : Int) (c : Context) : Context :=
  ((((c.riseStep vehicles i).1.overcurrentStep i).saturationStep i).updateStep i)

/-- The first cause met, in the order RISE, OVERCURRENT, SATURATION (R42). -/
def Context.causeOf (vehicles : Nat) (i : Int) (c : Context) : Option TripCause :=
  if (c.riseStep vehicles i).2 then some .rise
  else if (c.sixSteps vehicles i).ov = c.settings.nOv then some .overcurrent
  else if (c.sixSteps vehicles i).sat = saturationTrip then some .saturation
  else none

/-- The figures of a trip, as they stand after step 6 (R42). -/
def Context.figures (i : Int) (c : Context) : TripFigures where
  current := some i
  peak := c.peak
  deltaI := if c.rising then i - c.iBase else 0
  k := c.k
  limit := c.limit
  vehicles := c.nRise
  samples := c.buffer

/-- The figures the Section Controller takes for a trip it found itself (R53). -/
def Context.ownFigures (vehicles : Nat) (c : Context) : TripFigures where
  current := c.iPrev
  peak := c.peak
  deltaI := 0
  k := c.k
  limit := c.limit
  vehicles := vehicles
  samples := c.buffer

/-- A resynchronising sample (R36): the context is not IDLE, and I_prev is absent or eight samples were missed. -/
def Context.resynchronises (c : Context) : Bool :=
  c.status != .idle && (c.status == .blind || c.iPrev.isNone || decide (blindMisses ≤ c.miss))

/-- An ordinary sample meets an ARMED context that it does not resynchronise (R37). -/
def Context.ordinary (c : Context) : Bool := c.status == .armed && !c.resynchronises

/-- A good sample handled by status (R35, R36, R37); a trip sets the tripped latch and makes the context IDLE (R42). -/
def Context.good (vehicles : Nat) (i : Int) (v : Nat) (c : Context) : Context × Option (TripCause × TripFigures) :=
  let x := c.intake i v
  let cur := clampCurrent i
  if x.ordinary then
    match x.causeOf vehicles cur with
    | none => (x.sixSteps vehicles cur, none)
    | some cause =>
      ({ (x.sixSteps vehicles cur) with latch := true }.goIdle, some (cause, (x.sixSteps vehicles cur).figures cur))
  else if x.resynchronises then ({ x with iPrev := some cur, miss := 0, status := .armed, ov := 0, sat := 0 }, none)
  else ({ x with iPrev := some cur, miss := 0 }, none)

/-- A missed sample makes this context blind (R44). -/
def Context.blindsNext (c : Context) : Bool := c.status == .armed && decide (blindMisses ≤ satAdd 255 c.miss)

/-- A missed sample (R35, R43, R44). -/
def Context.missed (c : Context) : Context :=
  if c.blindsNext then { c with miss := satAdd 255 c.miss, status := .blind, rising := false, ov := 0, sat := 0 }
  else { c with miss := satAdd 255 c.miss }

/-- What a context does when its section is announced in a state (R31, R32). -/
def Context.follow (st : SectionState) (c : Context) : Context :=
  if (st = .closing ∨ st = .live ∨ st = .opening) ∧ c.latch = false then
    match c.status with
    | .idle => c.arm
    | .armed => c
    | .blind => if st = .live then { c with status := .armed } else c
  else if c.status = .idle then c
  else c.goIdle

/-- The status BLIND and the cause of PROTECTION_BLIND begin and end together (R31, R32, R36, R44). -/
def blindCause (feeder : Nat) (before after : ContextStatus) (s : State) : State :=
  if before = .blind ∧ after ≠ .blind then endCause .protectionBlind feeder s
  else if before ≠ .blind ∧ after = .blind then raise .protectionBlind feeder s
  else s

/-- Changes a feeder's context, and PROTECTION_BLIND with its status. -/
def changeContext (feeder : Nat) (f : Context → Context) (s : State) : State :=
  match s.context? feeder with
  | none => s
  | some c => blindCause feeder c.status (f c).status (s.modContext feeder f)

/-- The vehicle count of a feeder's section (R37, R113). -/
def State.feederVehicles (s : State) (feeder : Nat) : Nat :=
  match s.feeder? feeder with
  | some f => s.vehicleCount f.sect
  | none => 0

/-- A good sample of a feeder: its context takes it. The trip it gives, if any, is `sampleTrip`'s. -/
def goodSample (feeder : Nat) (i : Int) (v : Nat) (s : State) : State :=
  changeContext feeder (fun c => (c.good (s.feederVehicles feeder) i v).1) s

/-- The trip a good sample hands to the Section Controller (R42). -/
def sampleTrip (feeder : Nat) (i : Int) (v : Nat) (s : State) : Option (TripCause × TripFigures) :=
  match s.context? feeder with
  | some c => (c.good (s.feederVehicles feeder) i v).2
  | none => none

/-- A missed sample of a feeder (R35, R43, R44). -/
def missedSample (feeder : Nat) (s : State) : State := changeContext feeder (·.missed) s

/-- The tripped latch of a context is set, which makes it IDLE (R31, R33). -/
def setContextLatch (feeder : Nat) (s : State) : State :=
  changeContext feeder (fun c => if c.status = .idle then { c with latch := true } else { c with latch := true }.goIdle) s

end Sys2Proof.Machine
end

