-- ==== Sys2Proof/Machine/Trips.lean ====
section
/-! DEFINITION. The trip record list (03, 3.2): making and replacing records, suspects, outcomes. -/

namespace Sys2Proof.Machine

/-- The trip record list holds at most 8 records (R56). -/
def tripCapacity : Nat := 8

/-- A suspect's fault entry is first seen, and the suspect watch runs, within 2000 ms (R54). -/
def suspectSpan : Nat := 2000

/-- INSULATION and DEWIRED are the kinds that can point to a fault on the overhead wire (R54, R61). -/
def FaultKind.onWire : FaultKind → Bool
  | .insulation | .dewired => true
  | .regenOvervolt | .traction | .poleHead | .auxSupply => false

/-- The IN_SIGHT vehicle records naming a section (R53, R113). -/
def State.vehiclesIn (s : State) (sect : Nat) : List Vehicle :=
  s.reg.vehicles.filter (fun v => v.inSight && v.sect == some sect)

/-- The six lowest vehicle numbers in a section, in ascending order (R53). -/
def State.presentIn (s : State) (sect : Nat) : List Nat :=
  (sortBy id ((s.vehiclesIn sect).map (·.number))).take 6

/-- The vehicle has an INSULATION or DEWIRED entry (R61). -/
def Vehicle.hasWireFault (v : Vehicle) : Bool := v.faults.any (·.kind.onWire)

/-- The vehicle has an INSULATION or DEWIRED entry first seen no earlier than 2000 ms before now (R54). -/
def Vehicle.suspectAt (now : Time) (v : Vehicle) : Bool :=
  v.faults.any (fun e => e.kind.onWire && e.firstSeen.within now suspectSpan)

/-- The suspect named at the trip: the lowest such vehicle number in the section (R54). -/
def State.suspectIn (s : State) (sect : Nat) : Option Nat :=
  (sortBy id (((s.vehiclesIn sect).filter (·.suspectAt s.time.now)).map (·.number))).head?

/-- A trip record as it is made (R52, R53, R54). -/
def newTrip (s : State) (sect feeder : Nat) (cause : TripCause) (figures : TripFigures) (intertripped : Option Nat)
    (referenced : Bool) : TripRecord where
  time := s.stamp
  sect := sect
  feeder := feeder
  cause := cause
  figures := figures
  intertripped := intertripped
  present := s.presentIn sect
  presentCount := s.vehicleCount sect
  suspect := s.suspectIn sect
  watching := true
  referenced := referenced

/-- Makes room in a full list (R56): the oldest READ record leaves, or the oldest record when none is READ. -/
def dropTrip (l : List TripRecord) : List TripRecord :=
  if l.any (·.read) then dropFirst (·.read) l else l.drop 1

/-- A new record joins the end of the list (R56); TRIP_RECORD_OVERRUN is raised when an unread record was replaced. -/
def addTrip (r : TripRecord) (s : State) : State :=
  if s.sec.trips.length < tripCapacity then s.modTrips (· ++ [r])
  else if s.sec.trips.any (·.read) then s.modTrips (fun l => dropTrip l ++ [r])
  else raise .tripRecordOverrun 0 (s.modTrips (fun l => dropTrip l ++ [r]))

/-- The running records of a section, those without an outcome, take an outcome and return to UNREAD (R55, R57). -/
def setOutcome (sect : Nat) (o : TripOutcome) (s : State) : State :=
  s.modTrips (modWhere (fun r => r.sect == sect && r.outcome.isNone) (fun r => { r with outcome := some o, read := false }))

/-- The section keeps its reference only while it is TRIPPED (R51). -/
def dropReference (sect : Nat) (s : State) : State :=
  s.modTrips (modWhere (fun r => r.sect == sect) (fun r => { r with referenced := false }))

/-- The second cause of the referenced record of a section (R51); the record returns to UNREAD (R57). -/
def addSecondCause (sect feeder : Nat) (cause : TripCause) (s : State) : State :=
  s.modTrips (modWhere (fun r => r.sect == sect && r.referenced)
    (fun r => { r with second := some { feeder := feeder, cause := cause }, read := false }))

/-- A record watches for a suspect in a section at a time (R54). -/
def TripRecord.watchesFor (now : Time) (sect : Nat) (r : TripRecord) : Bool :=
  r.watching && r.suspect.isNone && r.sect == sect && r.time.within now suspectSpan

/-- The Vehicle Register's notice of a new INSULATION or DEWIRED entry (R54, R110): a watching record of the section names the
vehicle and returns to UNREAD. -/
def suspectNotice (vehicle : Nat) (sect : Option Nat) (s : State) : State :=
  match sect with
  | none => s
  | some n =>
    s.modTrips (modWhere (·.watchesFor s.time.now n) (fun r => { r with suspect := some vehicle, read := false }))

end Sys2Proof.Machine
end

