-- ==== Sys2Proof/Machine/Faults.lean ====
section
/-! DEFINITION. The fault entries of vehicle records (05, 5.4 and 5.6): the merge of a report, the room rule, the wayside
dewirement. -/

namespace Sys2Proof.Machine

/-- A vehicle record holds at most 4 fault entries (R101). -/
def faultCapacity : Nat := 4

/-- A reported fault: a kind and a severity (R103). -/
structure ReportedFault where
  kind : FaultKind
  severity : Severity
deriving DecidableEq, Repr

/-- The conditions and notices that follow the creation of an entry (R110): VEHICLE_FAULT for a MAJOR entry, and the suspect
notice for an INSULATION or DEWIRED entry. -/
def entryCreated (vehicle : Nat) (sect : Option Nat) (e : FaultEntry) (s : State) : State :=
  let t := if e.severity = .major then raise .vehicleFault vehicle s else s
  if e.kind.onWire then suspectNotice vehicle sect t else t

/-- The MINOR VEHICLE-source entry with the oldest first seen, the first listed of equals (R109). -/
def oldestMinor (now : Time) (l : List FaultEntry) : Option FaultEntry :=
  l.foldl (fun best e =>
    if e.severity = .minor ∧ e.source = .vehicle then
      match best with
      | none => some e
      | some b => if e.firstSeen.olderThan now b.firstSeen then some e else some b
    else best) none

/-- The room rule (R109): the entries after a new entry has joined, or none when it is dropped. -/
def joinEntries (now : Time) (e : FaultEntry) (l : List FaultEntry) : Option (List FaultEntry) :=
  if l.length < faultCapacity then some (l ++ [e])
  else if e.severity = .major then
    (oldestMinor now l).map (fun old => dropFirst (fun x => x.kind == old.kind) l ++ [e])
  else none

/-- A new entry joins a vehicle's record under the room rule, with the effects of its creation (R109, R110). -/
def addFault (vehicle : Nat) (e : FaultEntry) (s : State) : State :=
  match s.vehicle? vehicle with
  | none => s
  | some v =>
    match joinEntries s.time.now e v.faults with
    | none => s
    | some l => entryCreated vehicle v.sect e (s.modVehicle vehicle fun x => { x with faults := l })

/-- The severity with which a report names a kind. -/
def severityOf (faults : List ReportedFault) (k : FaultKind) : Option Severity :=
  (faults.find? (fun f => f.kind == k)).map (·.severity)

/-- First pass of R108: entries a report names take its severity and are seen now. -/
def confirmEntry (now : Stamp) (faults : List ReportedFault) (e : FaultEntry) : FaultEntry :=
  match severityOf faults e.kind with
  | some sev => { e with severity := sev, lastSeen := now }
  | none => e

/-- A confirmation raises an entry from MINOR to MAJOR (R110). -/
def raisedToMajor (faults : List ReportedFault) (e : FaultEntry) : Bool :=
  e.severity == .minor && severityOf faults e.kind == some .major

/-- Second pass of R108: a VEHICLE-source entry the report does not name is withdrawn. -/
def keptEntry (faults : List ReportedFault) (e : FaultEntry) : Bool :=
  e.source == .wayside || (severityOf faults e.kind).isSome

/-- A report's faults merged into a vehicle's entries: confirm, withdraw, add (R108). -/
def mergeFaults (vehicle : Nat) (faults : List ReportedFault) (s : State) : State :=
  match s.vehicle? vehicle with
  | none => s
  | some v =>
    let confirmed := s.modVehicle vehicle fun x =>
      { x with faults := (x.faults.map (confirmEntry s.stamp faults)).filter (keptEntry faults) }
    let raised := forEach (v.faults.filter (raisedToMajor faults)) (fun _ t => raise .vehicleFault vehicle t) confirmed
    forEach (faults.filter (fun f => !v.faults.any (fun e => e.kind == f.kind)))
      (fun f t => addFault vehicle
        { kind := f.kind, severity := f.severity, source := .vehicle, firstSeen := s.stamp, lastSeen := s.stamp } t)
      raised

/-- An existing DEWIRED entry met by a wayside dewirement: WAYSIDE, MAJOR and seen now; its first seen stays (R112). -/
def FaultEntry.toWayside (now : Stamp) (e : FaultEntry) : FaultEntry :=
  { e with source := .wayside, severity := .major, lastSeen := now }

/-- A WAYSIDE DEWIRED fault for a vehicle, from a switch point's dewirement detector (R112). -/
def waysideDewirement (vehicle : Nat) (s : State) : State :=
  match s.vehicle? vehicle with
  | none => s
  | some v =>
    match v.faults.find? (fun e => e.kind == .dewired) with
    | some e =>
      let t := s.modVehicle vehicle fun x => { x with faults := modWhere (·.kind == .dewired) (·.toWayside s.stamp) x.faults }
      if e.severity = .minor then raise .vehicleFault vehicle t else t
    | none =>
      addFault vehicle
        { kind := .dewired, severity := .major, source := .wayside, firstSeen := s.stamp, lastSeen := s.stamp } s

end Sys2Proof.Machine
end

