-- ==== Sys2Proof/Machine/Switches.lean ====
section
/-! DEFINITION. The Switch Point Controller's shared operations (04): the head of a queue, the throw decision, the aspect,
faults, and the handling of a switch slot. -/

namespace Sys2Proof.Machine

/-- A switch queue holds at most 6 requests (R77). -/
def queueCapacity : Nat := 6

/-- The zone count stays at or below 3 (R91). -/
def zoneLimit : Nat := 3

/-- What a switch unit's contacts show (R75). -/
inductive Contacts where
  | none | straight | turn | both
deriving DecidableEq, Repr

/-- The leg whose position contact alone is made (R75). -/
def Contacts.leg? : Contacts → Option Leg
  | .straight => some .straight
  | .turn => some .turn
  | .none => Option.none
  | .both => Option.none

/-- The contacts are both made. -/
def Contacts.isBoth : Contacts → Bool
  | .both => true
  | .none | .straight | .turn => false

/-- A switch slot's report (R75). -/
structure SwitchReport where
  contacts : Contacts
  entries : Byte
  exits : Byte
  dewirements : Byte
deriving DecidableEq, Repr

/-! ## The head, the decision and the aspect -/

/-- The head of the queue: its oldest request not in passage (R77). -/
def SwitchPoint.head? (w : SwitchPoint) : Option SwitchRequest := w.queue.find? (fun r => !r.inPassage)

/-- The vehicle of the head. -/
def SwitchPoint.headVehicle (w : SwitchPoint) : Option Nat := w.head?.map (·.vehicle)

/-- The oldest request in passage. -/
def SwitchPoint.passage? (w : SwitchPoint) : Option SwitchRequest := w.queue.find? (·.inPassage)

/-- The target of the throw decision: the pin, otherwise the head's leg (R84). -/
def SwitchPoint.target? (w : SwitchPoint) : Option Leg :=
  match w.pin with
  | some l => some l
  | none => w.head?.map (·.leg)

/-- The throw decision (R84): a SET switch with an empty zone and a LIVE supply starts a throw toward a target that differs
from its position. -/
def SwitchPoint.decideThrow (supplyLive : Bool) (now : Time) (w : SwitchPoint) : SwitchPoint :=
  match w.target? with
  | none => w
  | some leg =>
    if w.state = .set ∧ w.zone = 0 ∧ supplyLive = true ∧ w.position ≠ some leg then
      { w with state := .moving, throw := some { target := leg, start := now, seen := false } }
    else w

/-- The aspect computed from the record; the first line that applies (R95). -/
def SwitchPoint.aspectNow (w : SwitchPoint) : Aspect :=
  if w.state ≠ .set then .stop
  else if w.hold = true ∧ 0 < w.zone then .stop
  else if w.hold = true ∧ w.head?.any (fun r => some r.leg != w.position) = true then .stop
  else
    match w.position with
    | some .straight => .proceedStraight
    | some .turn => .proceedTurn
    | none => .stop

/-- A change of head sets head since and clears hold long raised (R83); without a change both are kept. -/
def SwitchPoint.newHead (old : Option Nat) (now : Time) (w : SwitchPoint) : SwitchPoint :=
  if w.headVehicle = old then w
  else { w with headSince := w.headVehicle.map (fun _ => now), holdLong := false }

/-- HOLD_LONG is due: the head has been head for T_hold or more, the aspect is STOP, and it was not raised for this head
(R96). -/
def SwitchPoint.holdLongDue (now : Time) (tHold : Nat) (w : SwitchPoint) : Bool :=
  !w.holdLong && w.aspect == .stop && timeUp? now w.headSince (tHold * 1000)

/-- The state of a switch's supply section is LIVE (R84, R88). -/
def State.supplyLive (s : State) (w : SwitchPoint) : Bool := (s.section? w.supply).any (fun x => x.state == .live)

/-- Makes the throw decision of a switch (R84). -/
def throwDecision (n : Nat) (s : State) : State :=
  s.modSwitch n fun w => w.decideThrow (s.supplyLive w) s.time.now

/-- Raises HOLD_LONG for a switch if it is due (R96). -/
def checkHoldLong (n : Nat) (s : State) : State :=
  match s.switch? n with
  | none => s
  | some w =>
    if w.holdLongDue s.time.now s.map.tHold then
      raise .holdLong n (s.modSwitch n fun x => { x with holdLong := true })
    else s

/-- Brings the aspect of a switch up to date (R95), which can make HOLD_LONG due (R96). -/
def updateAspect (n : Nat) (s : State) : State :=
  checkHoldLong n (s.modSwitch n fun w => { w with aspect := w.aspectNow })

/-- The queue of a switch has changed: a new head takes its place and the throw decision is made for it (R83, R84). -/
def headMoved (old : Option Nat) (n : Nat) (s : State) : State :=
  match s.switch? n with
  | none => s
  | some w =>
    if w.headVehicle = old then s
    else
      let t := s.modSwitch n (·.newHead old s.time.now)
      if w.headVehicle.isSome then throwDecision n t else t

/-- Changes a switch's queue, and then its head, decision and aspect (R83, R84, R95). -/
def changeQueue (n : Nat) (f : List SwitchRequest → List SwitchRequest) (s : State) : State :=
  match s.switch? n with
  | none => s
  | some w => updateAspect n (headMoved w.headVehicle n (s.modSwitch n fun x => { x with queue := f x.queue }))

/-! ## Requests -/

/-- A switch holds a request for a vehicle. -/
def SwitchPoint.holds (w : SwitchPoint) (vehicle : Nat) : Bool := w.queue.any (fun r => r.vehicle == vehicle)

/-- A request for the vehicle would be refused: the queue is full and holds no request for it (R80). -/
def SwitchPoint.refuses (w : SwitchPoint) (vehicle : Nat) : Bool :=
  !w.holds vehicle && decide (queueCapacity ≤ w.queue.length)

/-- The existing request of the vehicle takes a leg and an origin, and keeps the rest (R77). -/
def replaceRequest (vehicle : Nat) (leg : Leg) (origin : RequestOrigin) (q : List SwitchRequest) : List SwitchRequest :=
  modFirst (fun r => r.vehicle == vehicle) (fun r => { r with leg := leg, origin := origin }) q

/-- A request reaches a switch's queue (R77, R78, R79, R80): it replaces the vehicle's request, or joins the end, or is refused
with SWITCH_QUEUE_FULL. -/
def addSwitchRequest (n vehicle : Nat) (leg : Leg) (origin : RequestOrigin) (s : State) : State :=
  match s.switch? n with
  | none => s
  | some w =>
    if w.holds vehicle then
      let t := s.modSwitch n fun x => { x with queue := replaceRequest vehicle leg origin x.queue }
      if w.headVehicle = some vehicle then updateAspect n (throwDecision n t) else t
    else if w.refuses vehicle then raise .switchQueueFull n s
    else
      updateAspect n (throwDecision n (headMoved w.headVehicle n (s.modSwitch n fun x =>
        { x with queue := x.queue ++ [{ vehicle := vehicle, leg := leg, origin := origin, created := s.stamp }] })))

/-- The requests of a vehicle that leaves IN_SIGHT or the table leave every queue, in passage or not (R82). -/
def removeRequests (vehicle : Nat) (s : State) : State :=
  forEach ((s.switches.filter (·.holds vehicle)).map (·.number))
    (fun n t => changeQueue n (fun q => q.filter (fun r => r.vehicle != vehicle)) t) s

/-! ## Faults and silence -/

/-- A switch leaves its position and abandons any throw (R86, R87, R94). -/
def SwitchPoint.lose (dst : SwitchState) (w : SwitchPoint) : SwitchPoint :=
  { w with state := dst, position := none, throw := none, discrepancy := 0 }

/-- A switch enters FAULT (R94); a further cause met in FAULT leaves the reason as it was. -/
def enterFault (n : Nat) (reason : FaultReason) (s : State) : State :=
  match s.switch? n with
  | none => s
  | some w =>
    if w.state = .fault then s
    else raise .switchFault n (s.modSwitch n fun x => { x.lose .fault with fault := some reason })

/-- The supply section has entered LIVE: the throw decision of each switch it supplies (R84). -/
def supplyGained (sect : Nat) (s : State) : State :=
  forEach ((s.switches.filter (fun w => w.supply == sect)).map (·.number))
    (fun n t => updateAspect n (throwDecision n t)) s

/-- The supply section has left LIVE: a MOVING switch becomes UNCERTAIN, others are not changed (R87). -/
def supplyLost (sect : Nat) (s : State) : State :=
  forEach ((s.switches.filter (fun w => w.supply == sect && w.state == .moving)).map (·.number))
    (fun n t => updateAspect n (t.modSwitch n (·.lose .uncertain))) s

/-- A switch whose unit fell silent: SET and MOVING become UNCERTAIN, and the counter baseline is dropped (R87). -/
def SwitchPoint.silenced (w : SwitchPoint) : SwitchPoint :=
  match w.state with
  | .set | .moving => { w.lose .uncertain with baseline := false }
  | .uncertain | .fault => { w with baseline := false }

/-- The node of an identity has become SILENT: what its switch points do (R87). -/
def switchUnitSilent (identity : Nat) (s : State) : State :=
  forEach ((s.switches.filter (fun w => w.node == identity)).map (·.number))
    (fun n t => updateAspect n (t.modSwitch n (·.silenced))) s

/-- Every counter baseline becomes not taken, as at the start of a discovery (R134, R74). -/
def dropBaselines (s : State) : State := { s with switches := s.switches.map (fun w => { w with baseline := false }) }

/-- The release of pins at host silence (R98): each pinned switch loses its pin and makes the throw decision. -/
def releasePins (s : State) : State :=
  forEach ((s.switches.filter (fun w => w.pin.isSome)).map (·.number))
    (fun n t => updateAspect n (throwDecision n (t.modSwitch n fun x => { x with pin := none }))) s

/-! ## The switch slot (R76) -/

/-- First: a slot has been seen in the throw (R76). -/
def SwitchPoint.slotSeen (w : SwitchPoint) : SwitchPoint :=
  { w with throw := w.throw.map (fun t => { t with seen := true }) }

/-- A switch enters SET at a position (R85, R88). -/
def SwitchPoint.settle (leg : Leg) (w : SwitchPoint) : SwitchPoint :=
  { w with state := .set, position := some leg, throw := none, discrepancy := 0 }

/-- The contacts complete the throw of a MOVING switch (R85). -/
def SwitchPoint.completes (c : Contacts) (w : SwitchPoint) : Bool :=
  w.state == .moving && c.leg?.isSome && c.leg? == w.throw.map (·.target)

/-- Contacts met in MOVING (R85). The throw decision of a completed throw follows in `takeCounts`. -/
def contactsMoving (n : Nat) (w : SwitchPoint) (c : Contacts) (s : State) : State :=
  if c.isBoth then enterFault n .contactsBoth s
  else if w.completes c then s.modSwitch n fun x => match c.leg? with | some l => x.settle l | none => x
  else s

/-- Contacts met in UNCERTAIN, which resolve the switch while its supply section is LIVE (R88). -/
def contactsUncertain (n : Nat) (w : SwitchPoint) (c : Contacts) (s : State) : State :=
  if s.supplyLive w then
    match c with
    | .straight => throwDecision n (s.modSwitch n (·.settle .straight))
    | .turn => throwDecision n (s.modSwitch n (·.settle .turn))
    | .none => enterFault n .discrepancy s
    | .both => enterFault n .contactsBoth s
  else s

/-- Contacts compared with the position of a SET switch (R89). -/
def contactsSet (n : Nat) (w : SwitchPoint) (c : Contacts) (s : State) : State :=
  if c.isBoth then enterFault n .contactsBoth s
  else if c.leg?.isSome ∧ c.leg? = w.position then s.modSwitch n fun x => { x with discrepancy := 0 }
  else if w.discrepancy = 0 then s.modSwitch n fun x => { x with discrepancy := 1 }
  else enterFault n .discrepancy s

/-- Second: the contacts are taken by the switch's state (R76); in FAULT they are not watched (R94). -/
def takeContacts (n : Nat) (c : Contacts) (s : State) : State :=
  match s.switch? n with
  | none => s
  | some w =>
    match w.state with
    | .moving => contactsMoving n w c s
    | .uncertain => contactsUncertain n w c s
    | .set => contactsSet n w c s
    | .fault => s

/-- Judges an entry against the switch's state at that moment (R91). `leg` is the passage request's leg, if it has one. -/
def judgeEntry (n : Nat) (leg : Option Leg) (s : State) : State :=
  match s.switch? n with
  | none => s
  | some w =>
    match w.state with
    | .moving => raise .misroute n (enterFault n .passageWhileMoving s)
    | .uncertain | .fault => raise .misroute n s
    | .set => if leg.isSome ∧ leg ≠ w.position then raise .misroute n s else s

/-- One entry event (R91). -/
def entryEvent (n : Nat) (s : State) : State :=
  match s.switch? n with
  | none => s
  | some w =>
    if zoneLimit ≤ w.zone then judgeEntry n none (raise .contactSequence n s)
    else
      judgeEntry n (w.head?.map (·.leg))
        (headMoved w.headVehicle n (s.modSwitch n fun x =>
          { x with zone := x.zone + 1
                   queue := modFirst (fun r => !r.inPassage) (fun r => { r with inPassage := true }) x.queue }))

/-- One exit event (R92). -/
def exitEvent (n : Nat) (s : State) : State :=
  match s.switch? n with
  | none => s
  | some w =>
    if w.zone = 0 then raise .contactSequence n s
    else
      let t := s.modSwitch n fun x => { x with zone := x.zone - 1, queue := dropFirst (·.inPassage) x.queue }
      if w.zone = 1 then updateAspect n (throwDecision n t) else t

/-- One dewirement event (R93): FAULT, and a WAYSIDE DEWIRED fault for the oldest vehicle in passage. -/
def dewirementEvent (n : Nat) (s : State) : State :=
  match s.switch? n with
  | none => s
  | some w =>
    let t := enterFault n .dewirement s
    match w.passage? with
    | some r => if 0 < w.zone then waysideDewirement r.vehicle t else t
    | none => t

/-- Third: the counts (R90). Without a baseline they only set it; otherwise the new events are handled as entries, then
exits, then dewirements. A slot that has completed a throw owes the throw decision (R85): it is made once the slot's entries, which
R76 takes as entering a SET switch, stand in the zone count (DEDUCED, log 54). -/
def takeCounts (n : Nat) (r : SwitchReport) (owed : Bool) (s : State) : State :=
  match s.switch? n with
  | none => s
  | some w =>
    let decided (t : State) : State := if owed then throwDecision n t else t
    let store (t : State) : State := t.modSwitch n fun x =>
      { x with entries := r.entries, exits := r.exits, dewirements := r.dewirements, baseline := true }
    if w.baseline then
      store (iter (dewirementEvent n) (r.dewirements - w.dewirements).toNat
        (iter (exitEvent n) (r.exits - w.exits).toNat
          (decided (iter (entryEvent n) (r.entries - w.entries).toNat s))))
    else store (decided s)

/-- A good slot of a switch unit (R76): slot seen, contacts, counts, aspect. The aspect is brought up to date, and HOLD_LONG
judged, fourth and last, though R95 has it follow every change; only an exit that empties the zone does so earlier (log 47). -/
def switchSlot (n : Nat) (r : SwitchReport) (s : State) : State :=
  updateAspect n (takeCounts n r ((s.switch? n).any (·.completes r.contacts))
    (takeContacts n r.contacts (s.modSwitch n (·.slotSeen))))

end Sys2Proof.Machine
end

