-- ==== Sys2Proof/Machine/Register.lean ====
section
/-! DEFINITION. The Vehicle Register's shared operations (05): taking a beacon report, eviction, route lookup, records that go
out of sight or leave the table. -/

namespace Sys2Proof.Machine

/-- The vehicle table holds up to 64 records (R100). -/
def vehicleCapacity : Nat := 64

/-- A beacon report as the Ring Controller hands it over, codes as they stand (R103, R179). -/
structure BeaconReport where
  number : Byte
  vehicle : Nat
  route : Nat
  pole : Nat
  faults : List (Nat × Nat)
deriving DecidableEq, Repr

/-- The fault kind a code names (10.1). -/
def FaultKind.ofCode : Nat → Option FaultKind
  | 1 => some .insulation | 2 => some .dewired | 3 => some .regenOvervolt | 4 => some .traction
  | 5 => some .poleHead | 6 => some .auxSupply | _ => none

/-- The severity a code names (10.1). -/
def Severity.ofCode : Nat → Option Severity
  | 1 => some .minor | 2 => some .major | _ => none

/-- A pole state code that names none of the three is taken as UNKNOWN (R103). -/
def Pole.ofCode : Nat → Pole
  | 1 => .onWire | 2 => .down | _ => .unknown

/-- A fault item as the register takes it (R103): none when its kind or severity code names none of the defined values. -/
def reportedFault (kind severity : Nat) : Option ReportedFault :=
  match FaultKind.ofCode kind, Severity.ofCode severity with
  | some k, some sev => some { kind := k, severity := sev }
  | _, _ => none

/-- The report's faults in the order listed (R103): an item is skipped when its codes are undefined, or when its kind is among
`seen`, the kind codes that appeared earlier in the list, on a skipped item too. -/
def reportedFaults (seen : List Nat) : List (Nat × Nat) → List ReportedFault
  | [] => []
  | (k, sev) :: rest =>
    (if seen.contains k then [] else (reportedFault k sev).toList) ++ reportedFaults (k :: seen) rest

/-- A route code above 999 is taken as 0 (R103). -/
def BeaconReport.routeCode (r : BeaconReport) : Nat := if 999 < r.route then 0 else r.route

/-- A vehicle number outside 1..9999 makes the report void (R103). -/
def BeaconReport.isVoid (r : BeaconReport) : Bool := r.vehicle == 0 || decide (9999 < r.vehicle)

/-- The leg and origin of a request for a route code at a switch (R111): the first matching route entry in map order, or the
switch's default leg. -/
def routeLeg (routes : List RouteEntry) (code switch : Nat) (default : Leg) : Leg × RequestOrigin :=
  match routes.find? (fun e => code != 0 && e.code == code && e.switch == switch) with
  | some e => (e.leg, .route)
  | none => (default, .default)

/-- The record with the oldest last seen time, the one of lower index between equals (R105). -/
def oldestSeen (now : Time) (l : List Vehicle) : Option Vehicle :=
  l.foldl (fun best v =>
    match best with
    | none => some v
    | some b => if v.lastSeen.olderThan now b.lastSeen then some v else some b) none

/-- The record a full table evicts (R105): an OUT_OF_SIGHT one, without fault entries if there is one. -/
def evictionVictim (now : Time) (l : List Vehicle) : Option Vehicle :=
  match oldestSeen now (l.filter (fun v => !v.inSight && v.faults.isEmpty)) with
  | some v => some v
  | none => oldestSeen now (l.filter (fun v => !v.inSight))

/-- A record leaves the table, and the vehicle's requests leave every queue (R115). -/
def removeVehicle (number : Nat) (s : State) : State :=
  removeRequests number (s.modVehicles (·.filter (fun v => v.number != number)))

/-- The record a report creates or brings up to date (R107), without its fault entries. -/
def seenVehicle (s : State) (b : Beacon) (r : BeaconReport) (faults : List FaultEntry) : Vehicle where
  number := r.vehicle
  inSight := true
  sect := some b.sect
  lastBeacon := b.number
  lastSeen := s.stamp
  route := r.routeCode
  pole := Pole.ofCode r.pole
  faults := faults

/-- A record is evicted for a new one (R105): VEHICLE_EVICTED is raised when it held fault entries. -/
def evict (v : Vehicle) (s : State) : State :=
  let t := removeVehicle v.number s
  if v.faults.isEmpty then t else raise .vehicleEvicted v.number t

/-- Finds or makes the record of a report (R105, R106, R107); none when the report is dropped for a full table. -/
def placeVehicle (b : Beacon) (r : BeaconReport) (s : State) : Option State :=
  match s.vehicle? r.vehicle with
  | some _ => some (s.modVehicle r.vehicle fun v => seenVehicle s b r v.faults)
  | none =>
    if s.reg.vehicles.length < vehicleCapacity then some (s.modVehicles (· ++ [seenVehicle s b r []]))
    else
      match evictionVictim s.time.now s.reg.vehicles with
      | some v => some ((evict v s).modVehicles (· ++ [seenVehicle s b r []]))
      | none => none

/-- The switch requests of a report, one for each approach switch of its beacon, in order (R111). -/
def routeRequests (b : Beacon) (r : BeaconReport) (s : State) : State :=
  forEach b.approach (fun n t =>
    match t.switch? n with
    | none => t
    | some w =>
      let leg := routeLeg t.map.routes r.routeCode n w.defaultLeg
      addSwitchRequest n r.vehicle leg.1 leg.2 t) s

/-- A report that is neither a duplicate nor void (R105 to R111). -/
def useReport (b : Beacon) (r : BeaconReport) (s : State) : State :=
  match placeVehicle b r s with
  | none => raise .vehicleTableFull 0 s
  | some t => routeRequests b r (mergeFaults r.vehicle (reportedFaults [] r.faults) t)

/-- A beacon report (R104): a duplicate is ignored whole; otherwise its number becomes the beacon's last report number. -/
def takeReport (n : Nat) (r : BeaconReport) (s : State) : State :=
  match s.beacon? n with
  | none => s
  | some b =>
    if b.lastReport = some r.number then s
    else
      let t := s.modBeacon n fun x => { x with lastReport := some r.number }
      if r.isVoid then t else useReport b r t

/-- A record goes OUT_OF_SIGHT (R114): its section becomes absent and the vehicle's requests leave their queues. -/
def goOutOfSight (number : Nat) (s : State) : State :=
  removeRequests number (s.modVehicle number fun v => { v with inSight := false, sect := none })

/-- The sight timeout of a record has come (R114). -/
def Vehicle.sightDue (now : Time) (tSight : Nat) (v : Vehicle) : Bool :=
  v.inSight && (v.lastSeen.aged || timeUp now v.lastSeen.t (tSight * 1000))

end Sys2Proof.Machine
end

