-- ==== Sys2Proof/Machine/Sections.lean ====
section
/-! DEFINITION. The Section Controller's shared operations (01, 03): changing a section's state with all that follows from it,
close and open orders, trips, the feeder report, adoption. -/

namespace Sys2Proof.Machine

/-- The close confirmation time (R10). -/
def closeConfirmMs : Nat := 300

/-- The open confirmation time (R13). -/
def openConfirmMs : Nat := 100

/-- The adoption deadline (R27). -/
def adoptionMs : Nat := 1000

/-- A trip sooner than this after live since is a switch-on-fault trip (R49). -/
def switchOnFaultMs : Nat := 1000

/-! ## Changing a section's state -/

/-- The optional fields and flags of a section record follow its state (R3): what an entry into a state keeps, sets and
drops. The destination, lock reason and closing origin are put in place before the entry. -/
def Section.enter (now : Stamp) (dst : SectionState) (x : Section) : Section :=
  { x with
    state := dst
    destination := if dst = .opening ∨ dst = .tripped then x.destination else none
    lockReason := if dst = .lockedOut then x.lockReason else none
    origin := if dst = .closing ∨ dst = .live then x.origin else none
    liveSince := if dst = .live then some now else none
    closingSince := if dst = .closing then some now.t else none
    delayStart := if dst = .recloseWait then some now.t else none
    cancel := false
    stop := false }

/-- The Protection Unit is told of a section's new state (R5, R31, R32). -/
def tellProtection (x : Section) (dst : SectionState) (s : State) : State :=
  forEach x.feeders (fun f t => changeContext f (·.follow dst) t) s

/-- The Switch Point Controller is told of an entry into LIVE and of an exit from it (R5). -/
def tellSwitches (x : Section) (dst : SectionState) (s : State) : State :=
  if x.state ≠ .live ∧ dst = .live then supplyGained x.number s
  else if x.state = .live ∧ dst ≠ .live then supplyLost x.number s
  else s

/-- LOCKOUT is raised on entry into LOCKED_OUT, and its cause ends on leaving it (R3). -/
def tellLockout (x : Section) (dst : SectionState) (s : State) : State :=
  if dst = .lockedOut then raise .lockout x.number s
  else if x.state = .lockedOut then endCause .lockout x.number s
  else s

/-- The outcome the running records of a section take on an entry (R55). -/
def entryOutcome (dst : SectionState) (origin : Option ClosingOrigin) (reason : Option LockReason) : Option TripOutcome :=
  match dst with
  | .live => if origin = some .reclose then some .reclosed else none
  | .lockedOut => reason.map .lockedOut
  | .dead => some .cancelled
  | _ => none

/-- The running records take their outcome on an entry (R55), and the reference of R51 ends with TRIPPED. -/
def tellTrips (x y : Section) (s : State) : State :=
  let t := if x.state = .tripped then dropReference x.number s else s
  match entryOutcome y.state y.origin y.lockReason with
  | some o => setOutcome x.number o t
  | none => t

/-- The reclose window is dropped (R22, R23, R59). -/
def Section.closeWindow (x : Section) : Section := { x with window := .closed, windowStart := none, attempts := 0 }

/-- An EXPIRED window closes at an entry into LIVE, which is taken in full first (R59). -/
def closeExpired (n : Nat) (dst : SectionState) (s : State) : State :=
  if dst = .live then s.modSection n fun x => if x.window = .expired then x.closeWindow else x else s

/-- A section enters a state: `prep` puts the destination, lock reason or closing origin in place; the blocks that depend on
the state are told (R3, R5, R55, R59). -/
def changeState (n : Nat) (dst : SectionState) (prep : Section → Section) (s : State) : State :=
  match s.section? n with
  | none => s
  | some x =>
    closeExpired n dst
      (tellTrips x ((prep x).enter s.stamp dst)
        (tellLockout x dst
          (tellSwitches x dst (tellProtection x dst (s.modSection n fun y => (prep y).enter s.stamp dst)))))

/-- A section goes straight to LOCKED_OUT with a reason. -/
def lockOut (n : Nat) (reason : LockReason) (s : State) : State :=
  changeState n .lockedOut (fun x => { x with lockReason := some reason }) s

/-! ## Orders (R10, R12) -/

/-- A feeder gets the order OPEN; an OPEN order keeps its start time (R12). -/
def Feeder.openOrder (now : Stamp) (f : Feeder) : Feeder :=
  if f.order = .opens then f else { f with order := .opens, orderStart := some now, confirming := true }

/-- A feeder's order is ended (R10, R12, R22). -/
def Feeder.endOrder (f : Feeder) : Feeder := { f with order := .idle, orderStart := none, confirming := false }

/-- What entry into CLOSING does to a feeder (R10): order CLOSE, FAIL_TO_CLOSE returned to OK, latch cleared. -/
def Feeder.closeOrder (now : Stamp) (f : Feeder) : Feeder :=
  { f with order := .close, orderStart := some now, confirming := false, latch := false
           health := if f.health = .failToClose then .ok else f.health }

/-- Gives a feeder the order OPEN (R12). -/
def giveOpen (feeder : Nat) (s : State) : State := s.modFeeder feeder (·.openOrder s.stamp)

/-- A section enters CLOSING (R10): every feeder gets CLOSE and loses its latch, and the closing origin is set. -/
def enterClosing (n : Nat) (origin : ClosingOrigin) (s : State) : State :=
  match s.section? n with
  | none => s
  | some x =>
    changeState n .closing (fun y => { y with origin := some origin })
      (forEach x.feeders
        (fun f t => (t.modFeeder f (·.closeOrder s.stamp)).modContext f fun c => { c with latch := false }) s)

/-- A section enters LIVE (R10, R27): the order of every feeder becomes NONE. -/
def enterLive (n : Nat) (prep : Section → Section) (s : State) : State :=
  match s.section? n with
  | none => s
  | some x => changeState n .live prep (forEach x.feeders (fun f t => t.modFeeder f (·.endOrder)) s)

/-- A section enters OPENING with a destination; every feeder gets OPEN (R11, R12, R21, R26, R27). -/
def openSection (n : Nat) (dst : Destination) (s : State) : State :=
  match s.section? n with
  | none => s
  | some x =>
    changeState n .opening (fun y => { y with destination := some dst }) (forEach x.feeders (fun f t => giveOpen f t) s)

/-- A section enters its destination (R13, R50). -/
def enterDestination (n : Nat) (s : State) : State :=
  match (s.section? n).bind (·.destination) with
  | some .dead => changeState n .dead id s
  | some (.lockedOut r) => lockOut n r s
  | some .recloseWait => changeState n .recloseWait id s
  | none => s

/-! ## Trips (R15, R17, R49, R51) -/

/-- The destination of a trip in LIVE or CLOSING; the first line that applies (R49). -/
def tripDestination (now : Time) (x : Section) : Destination :=
  if x.origin = some .energise ∧
      (x.state = .closing ∨ x.liveSince.any (·.lessThanAgo now switchOnFaultMs) = true) then .lockedOut .switchOnFault
  else if x.settings.rMax = 0 ∨ (x.test = none ∧ x.settings.blind = false) then .lockedOut .noReclose
  else if x.window ≠ .closed ∧ x.settings.rMax ≤ x.attempts then .lockedOut .tripLimit
  else .recloseWait

/-- A window is opened at a trip sent to RECLOSE_WAIT that finds it NONE (R49, R58). -/
def Section.openWindow (now : Stamp) (dst : Destination) (x : Section) : Section :=
  if dst = .recloseWait ∧ x.window = .closed then { x with window := .opened, windowStart := some now } else x

/-- The other feeder of a two-feeder section. -/
def Section.otherFeeder (x : Section) (feeder : Nat) : Option Nat := x.feeders.find? (fun f => f != feeder)

/-- The other feeder, when the intertrip gives it OPEN because its order is not OPEN already (R17); so also when its OPEN order has
ended while the section is OPENING or TRIPPED. -/
def intertripOf (x : Section) (feeder : Nat) (s : State) : Option Nat :=
  (x.otherFeeder feeder).filter (fun o => (s.feeder? o).any (fun f => f.order != .opens))

/-- What every trip taken does to the feeders (R15, R17): latch, OPEN, intertrip. -/
def tripFeeders (x : Section) (feeder : Nat) (s : State) : State :=
  let t := giveOpen feeder (setContextLatch feeder (s.modFeeder feeder fun f => { f with latch := true }))
  match intertripOf x feeder s with
  | some o => giveOpen o t
  | none => t

/-- A trip is taken against its section's state (R15, R51). A record made in TRIPPED, because the referenced one is gone, names no
intertripped feeder (R52). -/
def tripSection (x : Section) (feeder : Nat) (cause : TripCause) (fig : TripFigures) (s : State) : State :=
  let t := tripFeeders x feeder s
  match x.state with
  | .live | .closing =>
    let dst := tripDestination s.time.now x
    changeState x.number .tripped (fun y => { y.openWindow s.stamp dst with destination := some dst })
      (raise .trip x.number (addTrip (newTrip s x.number feeder cause fig (intertripOf x feeder s) true) t))
  | .opening =>
    raise .trip x.number (addTrip (newTrip s x.number feeder cause fig (intertripOf x feeder s) false) t)
  | .tripped =>
    if s.sec.trips.any (fun r => r.sect == x.number && r.referenced) then
      raise .trip x.number (addSecondCause x.number feeder cause t)
    else raise .trip x.number (addTrip (newTrip s x.number feeder cause fig none false) t)
  | _ => s

/-- A trip reaches the Section Controller (R15); one of a feeder whose latch is set is not taken. -/
def takeTrip (feeder : Nat) (cause : TripCause) (fig : TripFigures) (s : State) : State :=
  match s.feeder? feeder with
  | none => s
  | some f =>
    if f.latch then s
    else
      match s.section? f.sect with
      | none => s
      | some x => tripSection x feeder cause fig s

/-! ## The feeder report (R8) -/

/-- The own-release count has advanced since the last good slot (R8, R14); the first slot sees no advance. -/
def Feeder.advanced (f : Feeder) (count : Byte) : Bool := f.ownRelease.any (fun c => c != count)

/-- The trip a slot gives (R14). -/
def reportTrip (x : Section) (f : Feeder) (b : Breaker) (count : Byte) : Option TripCause :=
  match x.state with
  | .live | .closing =>
    if f.order = .opens then none
    else if f.advanced count then some .ownRelease
    else if f.breaker = .closed ∧ (b = .opened ∨ b = .travelling) then some .unexpectedOpen
    else none
  | .opening | .tripped => if f.latch = false ∧ f.advanced count = true then some .ownRelease else none
  | _ => none

/-- A slot shows a stray close (R18). -/
def strayClose (x : Section) (f : Feeder) (b : Breaker) : Bool :=
  f.order == .idle && (b == .closed || b == .travelling) &&
    (x.state == .dead || x.state == .recloseWait || x.state == .testing || x.state == .lockedOut)

/-- First part of R8: the causes of R14 and R18 are tested against the record as it stood before the slot. -/
def testReport (x : Section) (f : Feeder) (b : Breaker) (count : Byte) (s : State) : State :=
  match reportTrip x f b count with
  | some cause =>
    match s.context? f.number with
    | some c => takeTrip f.number cause (c.ownFigures (s.vehicleCount x.number)) s
    | none => s
  | none => if strayClose x f b then giveOpen f.number s else s

/-- How a feeder's slot meets its OPEN order: a slot from which the Protection Unit made a trip does not end the order that this
trip gave (R16), and one that was to end the last OPEN order of an OPENING section takes it to its destination although the trip
gave the other feeder OPEN again (R45). -/
inductive SlotKind where
  | plain
  | keepsOrder
  | endsOpening
deriving DecidableEq, Repr

/-- The kind of the slot whose sample gives a trip, by the orders as they stand when the sample is taken (R16, R45). -/
def slotKind (feeder : Nat) (s : State) : SlotKind :=
  match s.feeder? feeder with
  | none => .plain
  | some f =>
    if f.order ≠ .opens then .keepsOrder
    else
      match s.section? f.sect with
      | none => .plain
      | some x =>
        if x.state = .opening ∧ x.feeders.all (fun o => o == feeder || (s.feeder? o).all (fun g => g.order != .opens)) then
          .endsOpening
        else .plain

/-- Second part of R8: the report is stored; a slot reporting OPEN ends FAIL_TO_OPEN (R9). -/
def Feeder.take (b : Breaker) (count : Byte) (f : Feeder) : Feeder :=
  { f with breaker := b, ownRelease := some count
           health := if b = .opened ∧ f.health = .failToOpen then .ok else f.health }

/-- The report is stored, and a slot reporting OPEN ends an OPEN order (R8, R12), unless the slot keeps it (R16). -/
def Feeder.store (kind : SlotKind) (b : Breaker) (count : Byte) (f : Feeder) : Feeder :=
  if b = .opened ∧ f.order = .opens ∧ kind ≠ .keepsOrder then (f.take b count).endOrder else f.take b count

/-- The cause of BREAKER_FAIL ends with FAIL_TO_OPEN (R9). -/
def storeReport (kind : SlotKind) (feeder : Nat) (b : Breaker) (count : Byte) (s : State) : State :=
  match s.feeder? feeder with
  | none => s
  | some f =>
    let t := s.modFeeder feeder (·.store kind b count)
    if f.health = .failToOpen ∧ b = .opened then endCause .breakerFail feeder t else t

/-- The feeder records of a section. -/
def State.feedersOf (s : State) (x : Section) : List Feeder := x.feeders.filterMap s.feeder?

/-- Every feeder of the section satisfies a test. -/
def State.allFeeders (s : State) (x : Section) (p : Feeder → Bool) : Bool :=
  x.feeders.all (fun n => (s.feeder? n).any p)

/-- Adoption of one section from its feeders' reported breakers (R27). -/
def adopt (x : Section) (s : State) : State :=
  if s.allFeeders x (fun f => f.breaker != .unknown) then
    if s.allFeeders x (fun f => f.breaker == .closed) then
      if s.sec.emergency then openSection x.number .dead s
      else enterLive x.number (fun y => { y with origin := some .adoption }) s
    else if s.allFeeders x (fun f => f.breaker == .opened) then changeState x.number .dead id s
    else openSection x.number .dead s
  else s

/-- The review of a section after a slot of a feeder (R8): entry into LIVE (R10), into the destination when the slot ended the
last OPEN order (R13), or adoption (R27). -/
def reviewSection (n : Nat) (ended : Bool) (s : State) : State :=
  match s.section? n with
  | none => s
  | some x =>
    match x.state with
    | .closing => if s.allFeeders x (fun f => f.breaker == .closed) then enterLive n id s else s
    | .opening | .tripped =>
      if ended && s.allFeeders x (fun f => f.order != .opens) then enterDestination n s else s
    | .unsettled => adopt x s
    | _ => s

/-- A good slot of a feeder reaches the Section Controller, as one of the kinds (R8, R16, R45). -/
def feederReportAs (kind : SlotKind) (feeder : Nat) (b : Breaker) (count : Byte) (s : State) : State :=
  match s.feeder? feeder with
  | none => s
  | some f =>
    match s.section? f.sect with
    | none => s
    | some x =>
      let t := testReport x f b count s
      let ended := (t.feeder? feeder).any (fun g => g.order == .opens) && b == .opened && kind != .keepsOrder
      let u := storeReport kind feeder b count t
      if ended ∧ kind = .endsOpening then enterDestination x.number u else reviewSection x.number ended u

/-- A good slot of a feeder that gave no trip in the Protection Unit (R8); also one that the Section Controller takes first. -/
def feederReport (feeder : Nat) (b : Breaker) (count : Byte) (s : State) : State := feederReportAs .plain feeder b count s

/-- Every feeder's node of a section is PRESENT (R20, R62, R182). -/
def State.nodesPresent (s : State) (x : Section) : Bool := s.allFeeders x (fun f => s.nodePresent f.node)

end Sys2Proof.Machine
end

