-- ==== Sys2Proof/Machine/LineTests.lean ====
section
/-! DEFINITION. Test units, line tests and reclose (03, 3.3 to 3.6), and the shared part of DE_ENERGISE and the emergency
input. -/

namespace Sys2Proof.Machine

/-- The head's test times out 1 s after it was ordered (R68). -/
def testTimeoutMs : Nat := 1000

/-- A third test that does not pass locks the section out (R71). -/
def testLimit : Nat := 3

/-- The resistance shown for an open circuit, and the cap of the computed one (R69). -/
def openCircuit : Nat := 9999

/-- A supply voltage below this is no supply (R69). -/
def supplyMinimum : Nat := 400

/-- The result computed from a test's readings (R69). -/
def readingsResult (rTest rClear vSup vSec : Nat) : TestResult :=
  if vSup < supplyMinimum then { kind := .noSupply, vSup := some vSup, vSec := some vSec }
  else
    let r := if vSup ≤ vSec then openCircuit else min openCircuit (rTest * vSec / (vSup - vSec))
    { kind := if rClear ≤ r then .pass else .fail, resistance := some r, vSup := some vSup, vSec := some vSec }

/-- The result of a test that times out (R69). -/
def timeoutResult : TestResult := { kind := .timeout }

/-- A section enters CLOSING for a reclose, or LOCKED_OUT when a feeder's node is not PRESENT (R62). -/
def recloseClosing (n : Nat) (s : State) : State :=
  match s.section? n with
  | none => s
  | some x =>
    if s.nodesPresent x then
      enterClosing n .reclose (s.modSection n fun y => { y with attempts := y.attempts + 1, testsUsed := 0 })
    else lockOut n .nodeAbsent s

/-- The lock reason of a third test that did not pass (R71). -/
def testLockReason (k : TestResultKind) : LockReason := if k = .fail then .testFailed else .testUnavailable

/-- A section goes on by its test's result (R71). -/
def carrySection (n : Nat) (k : TestResultKind) (s : State) : State :=
  match s.section? n with
  | none => s
  | some x =>
    if k = .pass then recloseClosing n s
    else
      let t := s.modSection n fun y => { y with testsUsed := y.testsUsed + 1 }
      if testLimit ≤ x.testsUsed + 1 then lockOut n (testLockReason k) t else changeState n .recloseWait id t

/-- The result is stored in the section record, unless its stop flag is set (R70). -/
def storeResult (n : Nat) (r : TestResult) (s : State) : State :=
  s.modSection n fun x => if x.stop then x else { x with lastTest := some r }

/-- A test unit without a head (R63). -/
def TestUnit.rest (u : TestUnit) : TestUnit := { u with queue := [], phase := .idle, orderedAt := none }

/-- A new head's test is ordered (R65): the number is raised, the phase is ORDERED. -/
def TestUnit.order (queue : List Nat) (now : Time) (u : TestUnit) : TestUnit :=
  { u with queue := queue, testNumber := u.testNumber + 1, phase := .ordered, orderedAt := some now }

/-- The sections of a queue become head in turn (R64, R65, R70): the first one's test is ordered; while the unit's node is not
PRESENT it ends at once with TIMEOUT, the next one becomes head, and the section then goes on by R71. -/
def orderHead (unit node : Nat) : List Nat → State → State
  | [], s => s.modTestUnit unit (·.rest)
  | n :: rest, s =>
    let t := s.modTestUnit unit (·.order (n :: rest) s.time.now)
    if s.nodePresent node then t
    else carrySection n .timeout (orderHead unit node rest (storeResult n timeoutResult t))

/-- A test ends with a result (R70): it is stored, the next section's test is ordered, and the head goes on by R71. -/
def endTest (u : TestUnit) (r : TestResult) (s : State) : State :=
  match u.queue with
  | [] => s
  | n :: rest => carrySection n r.kind (orderHead u.number u.node rest (storeResult n r s))

/-- A stopped test ends (R67): the section leaves the queue and enters DEAD, and the next section becomes head. -/
def endStopped (u : TestUnit) (s : State) : State :=
  match u.queue with
  | [] => s
  | n :: rest => orderHead u.number u.node rest (changeState n .dead id s)

/-- A section joins the end of its test unit's queue on entering TESTING (R61, R64). -/
def joinTestQueue (n unit : Nat) (s : State) : State :=
  match s.testUnit? unit with
  | none => s
  | some u =>
    match u.queue with
    | [] => orderHead unit u.node [n] s
    | _ :: _ => s.modTestUnit unit fun v => { v with queue := v.queue ++ [n] }

/-- A test unit's reports (R65, 10.5). -/
inductive TestReport where
  | idle
  | injecting
  | result (vSup vSec : Nat)
  | liveLine (voltage : Nat)
deriving DecidableEq, Repr

/-- R_clear of the head's section. -/
def State.rClearOf (s : State) (u : TestUnit) : Nat :=
  match u.queue.head?.bind s.section? with
  | some x => x.settings.rClear
  | none => 0

/-- A report with the present test number is taken according to the phase (R66). -/
def takeTestReport (u : TestUnit) (r : TestReport) (s : State) : State :=
  match u.phase, r with
  | .ordered, .injecting => s.modTestUnit u.number fun v => { v with phase := .injecting }
  | .ordered, .result vSup vSec => endTest u (readingsResult u.rTest (s.rClearOf u) vSup vSec) s
  | .injecting, .result vSup vSec => endTest u (readingsResult u.rTest (s.rClearOf u) vSup vSec) s
  | .ordered, .liveLine v => endTest u { kind := .liveLine, vSec := some v } s
  | .stopping, .idle => endStopped u s
  | .stopping, .result _ _ => endStopped u s
  | .stopping, .liveLine _ => endStopped u s
  | _, _ => s

/-- A test unit's report reaches the Section Controller (R66); one with another number is ignored. -/
def testReportArrives (unit : Nat) (number : Byte) (r : TestReport) (s : State) : State :=
  match s.testUnit? unit with
  | none => s
  | some u => if u.testNumber = number then takeTestReport u r s else s

/-- The head's test ends for want of a report: with TIMEOUT, or as a stopped test (R68). -/
def testGivesUp (u : TestUnit) (s : State) : State :=
  match u.phase with
  | .idle => s
  | .ordered | .injecting => endTest u timeoutResult s
  | .stopping => endStopped u s

/-- The node of an identity has become SILENT: what the test unit's test does (R68). -/
def testUnitSilent (identity : Nat) (s : State) : State :=
  match s.sec.testUnits.find? (fun u => u.node == identity) with
  | some u => testGivesUp u s
  | none => s

/-- The head's test is stopped: the stop flag is set and STOP is ordered (R21, R67). -/
def stopTest (n : Nat) (u : TestUnit) (s : State) : State :=
  (s.modSection n fun x => { x with stop := true }).modTestUnit u.number fun v => { v with phase := .stopping }

/-- A waiting section leaves its queue and enters DEAD at once (R21, R64). -/
def leaveTestQueue (n : Nat) (u : TestUnit) (s : State) : State :=
  changeState n .dead id (s.modTestUnit u.number fun v => { v with queue := v.queue.filter (fun m => m != n) })

/-- DE_ENERGISE, or the emergency input, meets a section in TESTING (R21, R26). -/
def endTesting (x : Section) (s : State) : State :=
  if x.stop then s
  else
    match x.test.bind (fun c => s.testUnit? c.unit) with
    | none => s
    | some u => if u.queue.head? = some x.number then stopTest x.number u s else leaveTestQueue x.number u s

/-- DE_ENERGISE and the assertion of the emergency input, by the section's state (R21, R26): where both rules give an effect
it is the same one. -/
def makeDead (x : Section) (s : State) : State :=
  match x.state with
  | .live | .closing => openSection x.number .dead s
  | .tripped => s.modSection x.number fun y => { y with cancel := true, destination := some .dead }
  | .recloseWait => changeState x.number .dead id s
  | .testing => endTesting x s
  | .opening | .dead | .isolated | .lockedOut | .unsettled => s

/-- An IN_SIGHT vehicle in the section holds an INSULATION or DEWIRED entry (R61). -/
def State.vehicleSuspect (s : State) (sect : Nat) : Bool := (s.vehiclesIn sect).any (·.hasWireFault)

/-- The reclose delay of a section has expired: lockout for a suspect vehicle, line test, or blind reclose (R61). -/
def recloseStep (x : Section) (s : State) : State :=
  if s.vehicleSuspect x.number then lockOut x.number .vehicleSuspect s
  else
    match x.test with
    | some c => joinTestQueue x.number c.unit (changeState x.number .testing id s)
    | none => recloseClosing x.number s

/-- A feeder that has not reported CLOSED fails to close (R9, R11); if its health was FAIL_TO_OPEN, the cause of BREAKER_FAIL
ends with it. -/
def feederFailsToClose (feeder : Nat) (s : State) : State :=
  match s.feeder? feeder with
  | none => s
  | some f =>
    if f.breaker = .closed then s
    else
      let t := s.modFeeder feeder fun g => { g with health := .failToClose }
      if f.health = .failToOpen then endCause .breakerFail feeder t else t

/-- The close confirmation time of a section has expired (R11). -/
def failToClose (x : Section) (s : State) : State :=
  openSection x.number (.lockedOut .failToClose) (forEach x.feeders feederFailsToClose s)

/-- A section has a feeder whose node is MISSING or SILENT (R27). -/
def State.nodeAbsent (s : State) (x : Section) : Bool :=
  (s.feedersOf x).any (fun f => s.nodeState? f.node == some .missing || s.nodeState? f.node == some .silent)

/-- Adoption begins at the end of discovery after reset (R27). -/
def beginAdoption (s : State) : State :=
  forEach (s.sec.sections.filter (fun x => x.state == .unsettled && s.nodeAbsent x))
    (fun x t => lockOut x.number .nodeAbsent t)
    { s with sec := { s.sec with adoption := .running s.time.now } }

/-- A node has become SILENT: the announcement to the Switch Point Controller and to the Section Controller (R68, R87,
R132). A feeder record keeps its values (R181). -/
def announceSilent (identity : Nat) (s : State) : State := testUnitSilent identity (switchUnitSilent identity s)

end Sys2Proof.Machine
end

