-- ==== Sys2Proof/Machine/Telegrams.lean ====
section
/-! DEFINITION. Telegrams and parcels (06, 10.5): their bytes as the part sends them, and how it reads them on return. -/

namespace Sys2Proof.Machine

/-- A telegram is at most 1500 bytes long (R121). -/
def maxTelegram : Nat := 1500

/-- A telegram carries 1 to 16 parcels (R121). -/
def maxParcels : Nat := 16

/-- A parcel other than IDLE (R121): kind, address mode, address, service tally, data. -/
structure Parcel where
  kind : Byte
  mode : Byte
  address : Nat
  tally : Nat := 0
  data : List Byte
deriving DecidableEq, Repr

/-! ## Codes (10.5) -/

/-- Parcel kind FETCH. -/
def kindFetch : Byte := 0x01
/-- Parcel kind ORDER. -/
def kindOrder : Byte := 0x02
/-- Parcel kind FETCH_ORDER. -/
def kindFetchOrder : Byte := 0x03
/-- Address mode POSITION. -/
def modePosition : Byte := 1
/-- Address mode NODE. -/
def modeNode : Byte := 2
/-- Address mode ROLE. -/
def modeRole : Byte := 3
/-- Address mode ALL. -/
def modeAll : Byte := 4

/-- The code of a role kind (10.1). -/
def RoleKind.code : RoleKind → Nat
  | .feeder => 1 | .switch => 2 | .beacon => 3

/-- The code of a node kind (10.1). -/
def NodeKind.code : NodeKind → Nat
  | .feederUnit => 1 | .switchUnit => 2 | .beaconUnit => 3 | .testUnit => 4 | .other => 5

/-- The node kind a unit reports; a code that names none is taken as OTHER (log 17). -/
def NodeKind.ofCode : Nat → NodeKind
  | 1 => .feederUnit | 2 => .switchUnit | 3 => .beaconUnit | 4 => .testUnit | _ => .other

/-- The code of a leg (10.1). -/
def Leg.code : Leg → Nat
  | .straight => 1 | .turn => 2

/-- The code of an optional leg, 0 for none (10.1). -/
def legCode (l : Option Leg) : Nat :=
  match l with
  | some x => x.code
  | none => 0

/-- The code of an aspect (10.1). -/
def Aspect.code : Aspect → Nat
  | .stop => 0 | .proceedStraight => 1 | .proceedTurn => 2

/-- The code of a feeder order (10.1). -/
def FeederOrder.code : FeederOrder → Nat
  | .idle => 0 | .close => 1 | .opens => 2

/-- The code of a port (10.1). -/
def portCode : PortId → Nat
  | .a => 0 | .b => 1

/-- The other port of the ring. -/
def otherPort : PortId → PortId
  | .a => .b | .b => .a

/-- Bytes a unit reports, which the part sends as FFh (R179). -/
def blank (n : Nat) : List Byte := List.replicate n 0xFF

/-! ## Sending (R121, R131, 10.5) -/

/-- A parcel's bytes: its 7-byte header and its data (10.5). -/
def Parcel.bytes (p : Parcel) : List Byte :=
  p.kind :: p.mode :: (le16 p.address ++ le16 p.data.length ++ u8 p.tally :: p.data)

/-- The parcels of a telegram; without any, one IDLE parcel, which reads as all ones (R121, R131). -/
def parcelBytes (ps : List Parcel) : List Byte := if ps.isEmpty then blank 7 else ps.flatMap (·.bytes)

/-- A telegram's header (10.5): origin port, number, leg OUT, hop count 0, length from the header to the end check. -/
def headerBytes (origin : PortId) (number : Byte) (parcelLength : Nat) : List Byte :=
  u8 (portCode origin) :: number :: 0 :: 0 :: le16 (6 + parcelLength + 4)

/-- A telegram as the part sends it (R121, 10.5): header, parcels, end check low byte first. -/
def telegramBytes (origin : PortId) (number : Byte) (ps : List Parcel) : List Byte :=
  let covered := headerBytes origin number (parcelBytes ps).length ++ parcelBytes ps
  covered ++ le32 (crc32 covered).toNat

/-- A feeder's slot: its order (none for a number without a feeder, log 18), an unset fresh marker, and the bytes the unit
fills (10.5, R179). -/
def feederSlot (s : State) (n : Nat) : List Byte :=
  let order := match s.feeder? n with
    | some f => f.order.code
    | none => 0
  u8 order :: 0 :: blank 6

/-- The throw order of a switch: its target while MOVING, none otherwise (R85). -/
def SwitchPoint.throwOrder (w : SwitchPoint) : Option Leg := if w.state = .moving then w.throw.map (·.target) else none

/-- A switch's slot: throw order and aspect, an unset fresh marker, and the bytes the unit fills (10.5, R179). -/
def switchSlotBytes (s : State) (n : Nat) : List Byte :=
  match s.switch? n with
  | some w => u8 (legCode w.throwOrder) :: u8 w.aspect.code :: 0 :: blank 5
  | none => 0 :: 0 :: 0 :: blank 5

/-- A beacon's status slot (10.5, R179). -/
def beaconSlotBytes (_n : Nat) : List Byte := 0 :: blank 1

/-- A role exchange with one slot for each number from 1 to the highest; left out when its table is empty (R131). -/
def exchange (kind : Byte) (role : RoleKind) (slot : Nat → List Byte) (numbers : List Nat) : List Parcel :=
  if numbers.isEmpty then []
  else [{ kind := kind, mode := modeRole, address := role.code, data := (numbersFrom 1 (maxOf numbers)).flatMap slot }]

/-- Parcels 1 to 3 of the schedule: feeder exchange, switch exchange, beacon status (R131). -/
def exchanges (s : State) : List Parcel :=
  exchange kindFetchOrder .feeder (feederSlot s) (s.sec.feeders.map (·.number)) ++
  exchange kindFetchOrder .switch (switchSlotBytes s) (s.switches.map (·.number)) ++
  exchange kindFetch .beacon beaconSlotBytes (s.reg.beacons.map (·.number))

/-- A NODE parcel. -/
def nodeParcel (kind : Byte) (identity : Nat) (data : List Byte) : Parcel :=
  { kind := kind, mode := modeNode, address := identity, data := data }

/-- A beacon fetch (R141, 10.5): the release number, or FFFFh for none, and the bytes the unit fills. -/
def fetchParcel (b : Beacon) : Parcel :=
  let release := match b.lastReport with
    | some n => le16 n.toNat
    | none => blank 2
  nodeParcel kindFetch b.node (release ++ blank 16)

/-- A beacon may be fetched while its pending count is above 0 and its node is PRESENT (R141). -/
def State.mayFetch (s : State) (b : Beacon) : Bool := decide (0 < b.reportsHeld) && s.nodePresent b.node

/-- The beacons a port's telegram fetches: in order of number after the last one fetched by the port, as many as there are
places (R131, log 23). -/
def fetchedBeacons (s : State) (p : Port) (places : Nat) : List Beacon :=
  let may := s.reg.beacons.filter s.mayFetch
  let last := p.lastFetch.getD 0
  ((may.filter (fun b => decide (last < b.number))) ++ (may.filter (fun b => decide (b.number ≤ last)))).take places

/-- The order code of a test parcel (R65, R66, R67): TEST while ORDERED, STOP while STOPPING, none while INJECTING. -/
def TestPhase.orderCode : TestPhase → Nat
  | .idle => 0 | .ordered => 1 | .injecting => 0 | .stopping => 2

/-- The channel of a test unit's head (R63, R65). -/
def State.channelOf (s : State) (u : TestUnit) : Nat :=
  match (u.queue.head?.bind s.section?).bind (·.test) with
  | some c => c.channel
  | none => 0

/-- The test parcels: one for each test unit whose phase is not NONE (R65, R131, 10.5). R67 has STOP go out with the test number and
names no channel, and the parcel of a unit that is INJECTING carries no order: the channel byte of both is the head's (DESIGN CHOICE,
log 19). -/
def testParcels (s : State) : List Parcel :=
  (s.sec.testUnits.filter (fun u => u.phase != .idle)).map fun u =>
    nodeParcel kindFetchOrder u.node
      (u8 u.phase.orderCode :: u8 (s.channelOf u) :: u.testNumber :: blank 7)

/-- The service parcel of an entry (R140, 10.5): its role to give in the role rotation, 0 and 0 in a status read. -/
def serviceParcel (giveRole : Bool) (e : Node) : Parcel :=
  match giveRole, e.role with
  | true, some r => nodeParcel kindFetchOrder e.identity (u8 r.kind.code :: u8 r.index :: blank 2)
  | _, _ => nodeParcel kindFetch e.identity (0 :: 0 :: blank 2)

/-- A POSITION parcel of discovery's step 1, carrying IDENTIFY (R134, 10.5). -/
def identifyParcel (position : Nat) : Parcel :=
  { kind := kindFetch, mode := modePosition, address := position, data := blank 3 }

/-- The parcel that removes every unit's role (R136, 10.5). -/
def removalParcel : Parcel := { kind := kindOrder, mode := modeAll, address := 0, data := [0] }

/-- The parcel that gives a node its role (R136); its two data bytes are the role kind and index (log 14). -/
def assignParcel (e : Node) : Parcel :=
  nodeParcel kindOrder e.identity
    (match e.role with
      | some r => [u8 r.kind.code, u8 r.index]
      | none => [0, 0])

/-- The parcel of a telegram in DOWN (R139): ALL-addressed FETCH without data. -/
def downParcel : Parcel := { kind := kindFetch, mode := modeAll, address := 0, data := [] }

/-! ## Reading (R127, R128, R179) -/

/-- A returned telegram whose header could be read and whose end check is good. -/
structure Telegram where
  origin : PortId
  number : Byte
  back : Bool
  hops : Nat
  parcels : List Parcel
deriving DecidableEq, Repr

/-- The parcels of a telegram, up to an all-ones header or the end; `fuel` bounds their number. -/
def readParcels : Nat → List Byte → List Parcel
  | 0, _ => []
  | fuel + 1, bytes =>
    match bytes with
    | k :: m :: a0 :: a1 :: l0 :: l1 :: t :: rest =>
      if k = 0xFF then []
      else if rest.length < num16 l0 l1 then []
      else
        { kind := k, mode := m, address := num16 a0 a1, tally := t.toNat, data := rest.take (num16 l0 l1) } ::
          readParcels fuel (rest.drop (num16 l0 l1))
    | _ => []

/-- The header's fields, when they can be read (R127, 10.5). The manual does not say which headers cannot be: the model takes an origin
or leg byte above 1, and a length that is not the telegram's own, as unreadable (DESIGN CHOICE, log 59). -/
def readHeader (covered : List Byte) (total : Nat) : Option Telegram :=
  match covered with
  | o :: n :: leg :: hops :: l0 :: l1 :: rest =>
    if o.toNat ≤ 1 ∧ leg.toNat ≤ 1 ∧ num16 l0 l1 = total then
      some { origin := if o = 0 then .a else .b, number := n, back := leg == 1, hops := hops.toNat
             parcels := readParcels maxParcels rest }
    else none
  | _ => none

/-- A telegram with a good end check, at most 1500 bytes long, whose header can be read (R127). -/
def readTelegram (bytes : List Byte) : Option Telegram :=
  let covered := bytes.take (bytes.length - 4)
  if bytes.length ≤ maxTelegram ∧ 10 ≤ bytes.length ∧ bytes.drop (bytes.length - 4) = le32 (crc32 covered).toNat then
    readHeader covered bytes.length
  else none

/-- The leg agrees with where the telegram arrived: BACK on the port that sent it, OUT on the other port (R127). -/
def Telegram.legAgrees (t : Telegram) (port : PortId) : Bool := t.back == (t.origin == port)

/-- The telegram returned on the other port from its origin: the round was whole (R128). -/
def Telegram.whole (t : Telegram) (port : PortId) : Bool := t.origin != port

/-- The slots of a role parcel: data cut into pieces of a size, numbered from 1. -/
def slotsOf (size : Nat) : Nat → Nat → List Byte → List (Nat × List Byte)
  | 0, _, _ => []
  | fuel + 1, i, data =>
    if data.length < size then [] else (i, data.take size) :: slotsOf size fuel (i + 1) (data.drop size)

/-- The breaker a slot's code names; a code outside 1..3 is taken as not served (R179). -/
def Breaker.ofCode : Nat → Option Breaker
  | 1 => some .opened | 2 => some .closed | 3 => some .travelling | _ => none

/-- The contacts a slot's code names; a code outside 0..3 is taken as not served (R179). -/
def Contacts.ofCode : Nat → Option Contacts
  | 0 => some .none | 1 => some .straight | 2 => some .turn | 3 => some .both | _ => Option.none

/-- A served feeder slot: breaker, own-release count, current and voltage (10.5). -/
structure FeederReport where
  breaker : Breaker
  count : Byte
  current : Int
  voltage : Nat
deriving DecidableEq, Repr

/-- Reads a feeder slot that came back served; any marker byte other than 00h is set (R179). -/
def readFeederSlot : List Byte → Option FeederReport
  | [_, fresh, brk, count, i0, i1, v0, v1] =>
    if fresh = 0 then none
    else (Breaker.ofCode brk.toNat).map fun b =>
      { breaker := b, count := count, current := int16 i0 i1, voltage := num16 v0 v1 }
  | _ => none

/-- Reads a switch slot that came back served (10.5, R179). -/
def readSwitchSlot : List Byte → Option SwitchReport
  | [_, _, fresh, contacts, e, x, d, _] =>
    if fresh = 0 then none
    else (Contacts.ofCode contacts.toNat).map fun c => { contacts := c, entries := e, exits := x, dewirements := d }
  | _ => none

/-- Reads a beacon status slot that came back served; a pending count above 8 is taken as 8 (R179). -/
def readBeaconSlot : List Byte → Option Nat
  | [fresh, count] => if fresh = 0 then none else some (min 8 count.toNat)
  | _ => none

/-- The fault items of a beacon report: as many as its fault count says, at most 4 (10.5, log 28). -/
def readFaults : Nat → List Byte → List (Nat × Nat)
  | n + 1, k :: sev :: rest => (k.toNat, sev.toNat) :: readFaults n rest
  | _, _ => []

/-- Reads the 15 bytes of a beacon report (10.5). -/
def readBeaconReport : List Byte → Option BeaconReport
  | n :: v0 :: v1 :: r0 :: r1 :: pole :: count :: rest =>
    some { number := n, vehicle := num16 v0 v1, route := num16 r0 r1, pole := pole.toNat
           faults := readFaults (min 4 count.toNat) rest }
  | _ => none

/-- Reads a served beacon fetch: a report-present byte of 0 is empty (R179), and any other, though 10.5 gives the byte only 0 or 1,
is a present report (DESIGN CHOICE, log 57). -/
def readFetch (data : List Byte) : Option BeaconReport :=
  match data with
  | _ :: _ :: present :: rest => if present = 0 then none else readBeaconReport rest
  | _ => none

/-- Reads a served test parcel's report and its number; codes outside 0..3, and a refusal for another reason, bring no report
(R179). -/
def readTestReport : List Byte → Option (Byte × TestReport)
  | [_, _, _, report, number, reason, s0, s1, v0, v1] =>
    match report.toNat with
    | 0 => some (number, .idle)
    | 1 => some (number, .injecting)
    | 2 => some (number, .result (num16 s0 s1) (num16 v0 v1))
    | 3 => if reason = 1 then some (number, .liveLine (num16 v0 v1)) else none
    | _ => none
  | _ => none

end Sys2Proof.Machine
end

