-- ==== Sys2Proof/Machine/RingOps.lean ====
section
/-! DEFINITION. The Ring Controller's shared operations (06): ports, hand-overs, settlement of slots, node runs, discovery,
ring states, the reading of a returned telegram and the sending of a period's telegrams. -/

namespace Sys2Proof.Machine

/-- A node becomes SILENT at this miss run (R132). -/
def silentRun : Nat := 20

/-- The ring is dark after this many periods without a good telegram (R139). -/
def darkLimit : Nat := 20

/-- The node table holds up to 64 entries (R133). -/
def nodeCapacity : Nat := 64

/-! ## Ports (R123, R125) -/

/-- A port may send (R123). -/
def Port.maySend (p : Port) : Bool :=
  match p.mode with
  | .openMode => true
  | .shut => false
  | .auto => p.linkUp
  | .autoShut => p.linkUp && !p.latch

/-- A port of the ring. -/
def Ring.port (r : Ring) (id : PortId) : Port :=
  match id with
  | .a => r.a
  | .b => r.b

/-- Changes a port. -/
def Ring.modPort (r : Ring) (id : PortId) (f : Port → Port) : Ring :=
  match id with
  | .a => { r with a := f r.a }
  | .b => { r with b := f r.b }

/-- A port receives unless its mode is SHUT and it is not port A in a recovery period (R123). -/
def Ring.receives (r : Ring) (id : PortId) : Bool := (r.port id).mode != .shut || (id == .a && r.recovery)

/-- The ring port: A if A may send, and otherwise B if B may send (R125). -/
def Ring.ringPort (r : Ring) : Option PortId :=
  if r.a.maySend then some .a else if r.b.maySend then some .b else none

/-- Every port that may send. -/
def Ring.allSenders (r : Ring) : List PortId := [PortId.a, PortId.b].filter (fun id => (r.port id).maySend)

/-- Only the ring port sends: in RING, and in STARTING with a closed discovery (R125). -/
def Ring.singlePort (r : Ring) : Bool :=
  match r.state with
  | .ring => true
  | .starting => r.discovery.any (fun d => d.shape == .closed)
  | .line | .down => false

/-- The ports the schedule chooses, before the recovery of R125. -/
def Ring.scheduled (r : Ring) : List PortId := if r.singlePort then r.ringPort.toList else r.allSenders

/-- The ports that send in a period; without any, port A, flagged recovery (R125). -/
def Ring.senders (r : Ring) : List PortId := if r.scheduled.isEmpty then [.a] else r.scheduled

/-! ## Nodes (R132) -/

/-- The run of an entry is kept: it is PRESENT or SILENT (R132). -/
def Node.heard (n : Node) : Bool := n.state == .present || n.state == .silent

/-- The entry holding a role (R128, R129). -/
def State.holder? (s : State) (kind : RoleKind) (index : Nat) : Option Node :=
  s.ring.nodes.find? (fun n => n.heard && n.role == some { kind := kind, index := index })

/-- Changes the entries of an identity whose run is kept. -/
def modHeard (identity : Nat) (f : Node → Node) (s : State) : State :=
  s.modRing fun r => { r with nodes := modWhere (fun n => n.heard && n.identity == identity) f r.nodes }

/-- The entry of an identity whose run is kept. -/
def State.heardNode? (s : State) (identity : Nat) : Option Node :=
  s.ring.nodes.find? (fun n => n.heard && n.identity == identity)

/-- A good settlement of a node (R132): its run becomes 0, and a SILENT node becomes PRESENT. -/
def nodeGood (identity : Nat) (s : State) : State :=
  match s.heardNode? identity with
  | none => s
  | some n =>
    let t := modHeard identity (fun x => { x with missRun := 0, state := .present }) s
    if n.state = .silent then endCause .nodeSilent identity t else t

/-- A missed settlement of a node (R132): its run is raised; a PRESENT node whose run reaches 20 becomes SILENT, which is
raised and announced. -/
def nodeMissed (identity : Nat) (s : State) : State :=
  match s.heardNode? identity with
  | none => s
  | some n =>
    if n.state = .present ∧ silentRun ≤ satAdd 255 n.missRun then
      announceSilent identity
        (raise .nodeSilent identity
          (modHeard identity (fun x => { x with missRun := satAdd 255 x.missRun, state := .silent }) s))
    else modHeard identity (fun x => { x with missRun := satAdd 255 x.missRun }) s

/-! ## Hand-overs (R130) -/

/-- A trip the Protection Unit has handed over in this handling, and how the slot that carried it meets its OPEN order (R16,
R45). -/
structure HeldTrip where
  feeder : Nat
  cause : TripCause
  figures : TripFigures
  slot : SlotKind
deriving DecidableEq, Repr

/-- What the Ring Controller hands on in one handling: samples and the trips they give, feeder reports, switch slots, beacon
reports, test reports, and the missed settlements of nodes. -/
inductive HandOver where
  | sample (feeder : Nat) (current : Int) (voltage : Nat)
  | trip (feeder : Nat)
  | missed (feeder : Nat)
  | report (feeder : Nat) (b : Breaker) (count : Byte)
  | switch (n : Nat) (r : SwitchReport)
  | beacon (n : Nat) (r : BeaconReport)
  | test (unit : Nat) (number : Byte) (r : TestReport)
  | nodeMissed (identity : Nat)
deriving DecidableEq, Repr

/-- A state in the middle of hand-overs, with the trips the Section Controller has not taken yet and those it has taken. -/
structure Handing where
  state : State
  held : List HeldTrip := []
  taken : List HeldTrip := []

/-- The Section Controller takes the held trips, in their order. -/
def Handing.takeHeld (h : Handing) : Handing :=
  { state := forEach h.held (fun t s => takeTrip t.feeder t.cause t.figures s) h.state, taken := h.taken ++ h.held }

/-- The kind of a feeder's slot, once its sample may have given a trip. -/
def Handing.kindOf (feeder : Nat) (h : Handing) : SlotKind :=
  match h.taken.find? (fun t => t.feeder == feeder) with
  | some t => t.slot
  | none => .plain

/-- Changes the state alone. -/
def Handing.onState (f : State → State) (h : Handing) : Handing := { h with state := f h.state }

/-- A good sample reaches the Protection Unit; a trip it gives is held until it is taken. -/
def Handing.sample (feeder : Nat) (i : Int) (v : Nat) (h : Handing) : Handing :=
  { h with
    state := goodSample feeder i v h.state
    held := h.held ++ match sampleTrip feeder i v h.state with
      | some t => [{ feeder := feeder, cause := t.1, figures := t.2, slot := slotKind feeder h.state }]
      | none => [] }

/-- One hand-over. A held trip waits at most for further samples of the same handling: before anything else is handed on, the
held trips are taken (R33, R45); a feeder's report knows whether its own sample tripped (R16). -/
def handOver (d : HandOver) (h : Handing) : Handing :=
  match d with
  | .sample f i v => h.sample f i v
  | .missed f => h.onState (missedSample f)
  | .trip _ => h.takeHeld
  | .report f b c => h.takeHeld.onState (feederReportAs (h.takeHeld.kindOf f) f b c)
  | .switch n r => h.takeHeld.onState (switchSlot n r)
  | .beacon n r => h.takeHeld.onState (takeReport n r)
  | .test u n r => h.takeHeld.onState (testReportArrives u n r)
  | .nodeMissed id => h.takeHeld.onState (nodeMissed id)

/-- The hand-overs of one handling, in the order a choice gives (log 9). -/
def handAll (order : List Nat) (l : List HandOver) (s : State) : State :=
  ((arrange order l).foldl (fun h d => handOver d h) { state := s : Handing }).takeHeld.state

/-! ## Settlement (R128, R129) -/

/-- A state with the hand-overs collected so far. -/
structure Reading where
  state : State
  out : List HandOver := []

/-- A feeder's index is settled good: the node is heard, and the slot goes to both blocks (R129, R130). -/
def settleFeeder (i : Nat) (data : List Byte) (r : Reading) : Reading :=
  match readFeederSlot data, r.state.feeder? i, r.state.holder? .feeder i with
  | some rep, some _, some node =>
    if r.state.ring.settledFeeders.contains i then r
    else
      { state := (nodeGood node.identity r.state).modRing fun x => { x with settledFeeders := x.settledFeeders ++ [i] }
        out := r.out ++ [.sample i rep.current rep.voltage, .trip i, .report i rep.breaker rep.count] }
  | _, _, _ => r

/-- A switch point's index is settled good (R129, R130). -/
def settleSwitch (i : Nat) (data : List Byte) (r : Reading) : Reading :=
  match readSwitchSlot data, r.state.switch? i, r.state.holder? .switch i with
  | some rep, some _, some node =>
    if r.state.ring.settledSwitches.contains i then r
    else
      { state := (nodeGood node.identity r.state).modRing fun x => { x with settledSwitches := x.settledSwitches ++ [i] }
        out := r.out ++ [.switch i rep] }
  | _, _, _ => r

/-- A beacon's index is settled good: its pending count is set (R129, R141). -/
def settleBeacon (i : Nat) (data : List Byte) (r : Reading) : Reading :=
  match readBeaconSlot data, r.state.beacon? i, r.state.holder? .beacon i with
  | some count, some _, some node =>
    if r.state.ring.settledBeacons.contains i then r
    else
      let s := (nodeGood node.identity r.state).modRing fun x => { x with settledBeacons := x.settledBeacons ++ [i] }
      { r with state := s.modBeacon i fun b => { b with reportsHeld := count } }
  | _, _, _ => r

/-- The position of an entry from a port. -/
def Node.position (id : PortId) (n : Node) : Option Nat :=
  match id with
  | .a => n.posA
  | .b => n.posB

/-- The expected tally of a role parcel (R128). -/
def expectedTally (s : State) (t : Telegram) (port : PortId) (kind : RoleKind) : Nat :=
  (s.ring.nodes.filter (fun n => n.heard && n.role.any (fun r => r.kind == kind) &&
    (t.whole port || (n.position t.origin).any (fun p => decide (p ≤ t.hops))))).length

/-- The role kind a role parcel's address names. -/
def RoleKind.ofCode : Nat → Option RoleKind
  | 1 => some .feeder | 2 => some .switch | 3 => some .beacon | _ => none

/-- The bytes of a slot of a role exchange (10.5). -/
def RoleKind.slotSize : RoleKind → Nat
  | .feeder => 8 | .switch => 8 | .beacon => 2

/-- Settles one slot of a role exchange. -/
def settleSlot (kind : RoleKind) (i : Nat) (data : List Byte) (r : Reading) : Reading :=
  match kind with
  | .feeder => settleFeeder i data r
  | .switch => settleSwitch i data r
  | .beacon => settleBeacon i data r

/-- Reads a ROLE parcel (R128): a tally above the expected one raises ROLE_CONFLICT and discards the data. -/
def readRole (t : Telegram) (port : PortId) (p : Parcel) (r : Reading) : Reading :=
  match RoleKind.ofCode p.address with
  | none => r
  | some kind =>
    if expectedTally r.state t port kind < p.tally then { r with state := raise .roleConflict kind.code r.state }
    else
      (slotsOf kind.slotSize (p.data.length + 1) 1 p.data).foldl (fun acc x => settleSlot kind x.1 x.2 acc) r

/-- A parcel to a test unit came back served (R132). -/
def testServed (identity : Nat) (s : State) : State :=
  (nodeGood identity s).modRing fun r => { r with testServed := r.testServed ++ [identity] }

/-- A status read (R140, R179): FFFFh leaves the unit status as it is, and the time is that of the read. -/
def Node.readStatus (value : Nat) (at' : Stamp) (n : Node) : Node :=
  { n with unitStatus := if value = 65535 then n.unitStatus else some value, statusAt := some at' }

/-- The entry the service parcel of the present period went to, when it has the identity the parcel names (R140). -/
def Ring.served? (r : Ring) (identity : Nat) : Option (Nat × Node) :=
  r.serviceEntry.bind fun i => (r.nodes[i]?.filter (fun n => n.identity == identity)).map fun n => (i, n)

/-- A served service parcel sets the unit status and the status read at of the entry it went to (R140, R179). -/
def readService (identity : Nat) (data : List Byte) (s : State) : State :=
  match data, s.ring.served? identity with
  | [_, _, lo, hi], some (i, n) =>
    let t := s.modRing fun r => { r with nodes := r.nodes.set i (n.readStatus (num16 lo hi) s.stamp) }
    if n.kind = .testUnit then testServed identity t else t
  | _, _ => s

/-- Reads a served NODE parcel by its length: a beacon fetch (18), a test parcel (10) or a service parcel (4) (R130, 10.5). -/
def readNode (p : Parcel) (r : Reading) : Reading :=
  if p.tally ≠ 1 then r
  else if p.data.length = 18 then
    match readFetch p.data, r.state.reg.beacons.find? (fun b => b.node == p.address) with
    | some rep, some b => { r with out := r.out ++ [.beacon b.number rep] }
    | _, _ => r
  else if p.data.length = 10 then
    match r.state.sec.testUnits.find? (fun u => u.node == p.address) with
    | none => r
    | some u =>
      let s := testServed p.address r.state
      match readTestReport p.data with
      | some rep => { state := s, out := r.out ++ [.test u.number rep.1 rep.2] }
      | none => { r with state := s }
  else if p.data.length = 4 then { r with state := readService p.address p.data r.state }
  else r

/-- Reads one parcel of a good telegram outside discovery. -/
def readParcel (t : Telegram) (port : PortId) (p : Parcel) (r : Reading) : Reading :=
  if p.mode = modeRole then readRole t port p r else if p.mode = modeNode then readNode p r else r

/-- The role indices of a kind that no good telegram of the period has settled. -/
def unsettled (numbers settled : List Nat) : List Nat := numbers.filter (fun i => !settled.contains i)

/-- The missed settlement of the node that holds a role (R129, R132). -/
def holderMissed (s : State) (kind : RoleKind) (i : Nat) : List HandOver :=
  match s.holder? kind i with
  | some n => [.nodeMissed n.identity]
  | none => []

/-- What the settlement of the period's remaining indices as missed hands on (R129, R130, R132). -/
def missedHandOvers (s : State) : List HandOver :=
  (unsettled (s.sec.feeders.map (·.number)) s.ring.settledFeeders).flatMap
    (fun i => HandOver.missed i :: holderMissed s .feeder i) ++
  (unsettled (s.switches.map (·.number)) s.ring.settledSwitches).flatMap (holderMissed s .switch) ++
  (unsettled (s.reg.beacons.map (·.number)) s.ring.settledBeacons).flatMap (holderMissed s .beacon) ++
  (unsettled s.ring.testSent s.ring.testServed).map .nodeMissed

/-- The pending count of a beacon whose slot is settled missed becomes 0 (R141). -/
def Beacon.closePeriod (settled : List Nat) (b : Beacon) : Beacon :=
  if settled.contains b.number then b else { b with reportsHeld := 0 }

/-- The remaining indices are settled as missed (R129): none stays open, and a missed beacon's pending count becomes 0
(R141). -/
def closeSettlement (s : State) : State :=
  let t : State := { s with reg := { s.reg with beacons := s.reg.beacons.map (·.closePeriod s.ring.settledBeacons) } }
  t.modRing fun r =>
    { r with settledFeeders := s.sec.feeders.map (·.number), settledSwitches := s.switches.map (·.number)
             settledBeacons := s.reg.beacons.map (·.number), testServed := r.testSent }

/-- Every telegram sent in the period has come back good. -/
def Ring.allReturned (r : Ring) : Bool := !r.a.unreturned && !r.b.unreturned

/-- The period's remaining indices are settled as missed once the last telegram is back (R129); without role parcels they wait
for the next period. -/
def closeIfLast (r : Reading) : Reading :=
  if r.state.ring.allReturned && r.state.ring.roleSent then
    { state := closeSettlement r.state, out := r.out ++ missedHandOvers r.state }
  else r

/-! ## The node table (R133, R137) -/

/-- The order of the table (R133), for things that each carry an entry: by position from A, then those with only a position
from B, then the others as they stand. -/
def inTableOrder {α : Type} (entry : α → Node) (l : List α) : List α :=
  sortBy (fun x => (entry x).posA.getD 0) (l.filter (fun x => (entry x).posA.isSome)) ++
  sortBy (fun x => (entry x).posB.getD 0) (l.filter (fun x => (entry x).posA.isNone && (entry x).posB.isSome)) ++
  l.filter (fun x => (entry x).posA.isNone && (entry x).posB.isNone)

/-- The entries in the order of the table (R133). -/
def tableOrder (l : List Node) : List Node := inTableOrder id l

/-- The position an entry takes from the other port: the count plus 1 minus the one it holds (R135, R137). Where that falls below
1, because a unit in between named none, the model leaves the position absent (DESIGN CHOICE, log 50). -/
def mirrored (count p : Nat) : Option Nat := if p ≤ count then some (count + 1 - p) else none

/-- An entry that holds only one position takes the other (R137). -/
def Node.fillPosition (count : Nat) (n : Node) : Node :=
  match n.posA, n.posB with
  | some p, none => { n with posB := mirrored count p }
  | none, some p => { n with posA := mirrored count p }
  | _, _ => n

/-- The entries take their missing positions and their new places in the table; the rotations and the service parcel keep to
their entries (R133, R137, R140). -/
def Ring.fillTable (count : Nat) (r : Ring) : Ring :=
  let placed := inTableOrder (·.2) ((numbersFrom 0 r.nodes.length).zip (r.nodes.map (·.fillPosition count)))
  let moved (i : Option Nat) : Option Nat := i.bind fun k => indexWhere (fun x => x.1 == k) placed
  { r with nodes := placed.map (·.2), roleLast := moved r.roleLast, statusLast := moved r.statusLast
           serviceEntry := moved r.serviceEntry }

/-- Positions are filled by a whole round whose hop count is the number of entries that are not MISSING (R137). -/
def fillPositions (t : Telegram) (port : PortId) (s : State) : State :=
  let count := (s.ring.nodes.filter (fun n => n.state != .missing)).length
  if t.whole port && t.hops == count then s.modRing (·.fillTable count) else s

/-! ## Discovery (R134 to R137) -/

/-- Discovery starts (R134): STARTING, baselines dropped, pending counts discarded. The cause of RING_OPEN ends with LINE. -/
def startDiscovery (s : State) : State :=
  let t := dropBaselines (if s.ring.state = .line then endCause .ringOpen 0 s else s)
  { t with
    ring := { t.ring with state := .starting, discovery := some {} }
    reg := { t.reg with beacons := t.reg.beacons.map (fun b => { b with reportsHeld := 0 }) } }

/-- The side of a closed discovery: that of the port that sends (R125, R135). -/
def Ring.closedSide (r : Ring) : PortId := if r.a.sentLast then .a else .b

/-- The sides taking part in a discovery (R135, log 15). -/
def Ring.sides (r : Ring) (shape : Shape) : List PortId :=
  match shape with
  | .undecided => []
  | .closed => [r.closedSide]
  | .opened => [PortId.a, PortId.b].filter (fun id => (r.port id).sentLast)

/-- A side of a discovery. -/
def Discovery.side (d : Discovery) (id : PortId) : Side :=
  match id with
  | .a => d.sideA
  | .b => d.sideB

/-- Changes a side of a discovery. -/
def Discovery.modSide (d : Discovery) (id : PortId) (f : Side → Side) : Discovery :=
  match id with
  | .a => { d with sideA := f d.sideA }
  | .b => { d with sideB := f d.sideB }

/-- The four groups of positions of step 1 (R134). -/
def groupNumbers : List Nat := [0, 1, 2, 3]

/-- The first position of a group (R134). -/
def groupStart (g : Nat) : Nat := 16 * g + 1

/-- The lowest group of a side not yet complete. -/
def Side.nextGroup (x : Side) : Option Nat := groupNumbers.find? (fun g => !x.groups.contains g)

/-- Step 1 of a side has ended. -/
def Side.surveyed (x : Side) : Bool := groupNumbers.all (fun g => x.groups.contains g)

/-- A unit named by a POSITION parcel: one that came back with tally 1 (R134). The manual does not say what an identity outside 1 to
4095 names: the model takes it as it stands, so that the unit is FOREIGN under that number (DESIGN CHOICE, log 55). -/
def readIdentify (p : Parcel) : Option Found :=
  if p.mode = modePosition ∧ p.tally = 1 then
    match p.data with
    | [i0, i1, k] => some { position := p.address, identity := num16 i0 i1, kind := NodeKind.ofCode k.toNat }
    | _ => none
  else none

/-- The telegram carried a group, or its hop count shows that no unit stands there (R134). -/
def groupDone (t : Telegram) (g : Nat) : Bool :=
  t.parcels.any (fun p => p.mode == modePosition && p.address == groupStart g) || decide (t.hops < groupStart g)

/-- A good step-1 telegram of a side completes groups and names units (R134). -/
def Side.survey (t : Telegram) (x : Side) : Side :=
  { x with
    groups := x.groups ++ (groupNumbers.filter (fun g => !x.groups.contains g && groupDone t g))
    found := x.found ++ (t.parcels.filterMap readIdentify) }

/-- The shape a good telegram shows (R135). -/
def shownShape (t : Telegram) (port : PortId) : Shape := if t.whole port then .closed else .opened

/-- A good telegram of step 1 (R135): it decides the shape, or restarts a discovery whose shape it disagrees with, or is used
by its side. -/
def Discovery.stepOne (d : Discovery) (r : Ring) (t : Telegram) (port : PortId) : Discovery :=
  if d.shape ≠ .undecided ∧ d.shape ≠ shownShape t port then { shape := shownShape t port }
  else
    let x := { d with shape := shownShape t port }
    if d.table.isSome then x
    else if (r.sides x.shape).contains t.origin then x.modSide t.origin (·.survey t)
    else x

/-- The units found in a discovery with their positions (R135): a unit of a closed discovery has both. An entry made here has no
unit status and no time of a status read, whatever the old table held (R136, log 49). R135 does not say whether units already found
count when their side's port has stopped sending by the time the table is built: the model leaves them out (DESIGN CHOICE, log
52). -/
def Discovery.units (d : Discovery) (r : Ring) : List Node :=
  let node (a b : Option Nat) (f : Found) : Node :=
    { identity := f.identity, kind := f.kind, role := none, posA := a, posB := b, state := .foreign }
  match d.shape with
  | .undecided => []
  | .closed =>
    let found := (d.side r.closedSide).found
    match r.closedSide with
    | .a => found.map fun f => node (some f.position) (mirrored found.length f.position) f
    | .b => found.map fun f => node (mirrored found.length f.position) (some f.position) f
  | .opened =>
    (if (r.sides .opened).contains .a then d.sideA.found.map (fun f => node (some f.position) none f) else []) ++
    (if (r.sides .opened).contains .b then d.sideB.found.map (fun f => node none (some f.position) f) else [])

/-- A unit found is matched with the map (R136): PRESENT with its role when identity and kind are the map's and no other unit
has the identity, FOREIGN otherwise. -/
def matchUnit (map : List MapNode) (units : List Node) (u : Node) : Node :=
  match map.find? (fun m => m.identity == u.identity) with
  | some m =>
    if m.kind = u.kind ∧ (units.filter (fun x => x.identity == u.identity)).length = 1 then
      { u with role := m.role, state := .present }
    else u
  | none => u

/-- The entries of the units, in order of position: PRESENT units and the first FOREIGN unit of each map identity have their
places; any other FOREIGN unit takes an entry while `room` lasts (R133). `placed` holds the identities placed so far. -/
def placeUnits (map : List MapNode) (placed : List Nat) (room : Nat) : List Node → List Node
  | [] => []
  | u :: rest =>
    if map.any (fun m => m.identity == u.identity) && !placed.contains u.identity then
      u :: placeUnits map (u.identity :: placed) room rest
    else
      match room with
      | 0 => placeUnits map placed 0 rest
      | k + 1 => u :: placeUnits map placed k rest

/-- The MISSING entries: the map's nodes whose identity no unit found carries, in map order (R136). -/
def missingEntries (map : List MapNode) (units : List Node) : List Node :=
  (map.filter (fun m => !units.any (fun u => u.identity == m.identity))).map fun m =>
    { identity := m.identity, kind := m.kind, role := m.role, posA := none, posB := none, state := .missing }

/-- The units of a discovery, matched and in order of position. -/
def matchedUnits (s : State) (d : Discovery) : List Node :=
  let units := tableOrder (d.units s.ring)
  units.map (matchUnit s.map.nodes units)

/-- The new node table (R133, R136). -/
def buildTable (s : State) (d : Discovery) : List Node :=
  placeUnits s.map.nodes [] (nodeCapacity - s.map.nodes.length) (matchedUnits s d) ++
    missingEntries s.map.nodes (matchedUnits s d)

/-- The identities whose role a side gives in step 2: PRESENT entries with a role on that side (R136). -/
def assignments (shape : Shape) (id : PortId) (table : List Node) : List Nat :=
  (table.filter (fun n => n.state == .present && n.role.isSome && (shape == .closed || (n.position id).isSome))).map
    (·.identity)

/-- Step 1 has ended on every side taking part. -/
def Discovery.surveyed (d : Discovery) (r : Ring) : Bool :=
  !(r.sides d.shape).isEmpty && (r.sides d.shape).all (fun id => (d.side id).surveyed)

/-- Step 2 is done on a side: the removal and every assignment. -/
def Side.assigned (x : Side) : Bool := x.removed && x.todo.isEmpty

/-- Step 2 is done on every side taking part; while the map is invalid it is done at once (R136, R137). -/
def Discovery.assigned (d : Discovery) (s : State) : Bool :=
  !s.map.valid || (s.ring.sides d.shape).all (fun id => (d.side id).assigned)

/-- The state an identity has in a node table (R182). -/
def stateIn (table : List Node) (identity : Nat) : Option NodeState :=
  (table.find? (fun n => n.identity == identity)).map (·.state)

/-- The entries of the old table to be announced as having become SILENT when a new table replaces it (R137): PRESENT or SILENT
entries now MISSING or FOREIGN, and nodes that became SILENT in step 2. -/
def silencedBy (old new : List Node) : List Nat :=
  (old.filter (fun n => n.heard &&
    (stateIn new n.identity == some .missing || stateIn new n.identity == some .foreign))).map (·.identity)

/-- The nodes that became SILENT during step 2 and were not SILENT in the old table (R137). -/
def silentSince (old new : List Node) : List Nat :=
  (new.filter (fun n => n.state == .silent && stateIn old n.identity != some .silent)).map (·.identity)

/-- The node conditions follow the new table (R137). -/
def nodeConditions (old new : List Node) (s : State) : State :=
  let ids (l : List Node) (st : NodeState) := (l.filter (fun n => n.state == st)).map (·.identity)
  let lost (st : NodeState) := (ids old st).filter (fun i => stateIn new i != some st)
  forEach ((ids new .missing).filter (fun i => stateIn old i != some .missing)) (fun i t => raise .nodeMissing i t)
    (forEach (lost .missing) (fun i t => endCause .nodeMissing i t)
      (forEach (lost .silent) (fun i t => endCause .nodeSilent i t) s))

/-- The ring takes the state the discovery's shape gives (R137, R138). -/
def enterShape (shape : Shape) (s : State) : State :=
  if shape = .closed then s.modRing fun r => { r with state := .ring, discovery := none }
  else raise .ringOpen 0 (s.modRing fun r => { r with state := .line, discovery := none })

/-- Discovery ends (R137): the new table replaces the old, silences are announced, the node conditions follow, the rotations
start again, with the turn at the role rotation (R140, log 51), and after reset adoption begins (R27). -/
def endDiscovery (shape : Shape) (new : List Node) (s : State) : State :=
  let old := s.ring.nodes
  let a := s.modRing fun r => { r with nodes := new, roleTurn := true, roleLast := none, statusLast := none, serviceEntry := none }
  let b := forEach (silencedBy old new) announceSilent a
  let c := forEach (silentSince old new) (fun i t => announceSilent i (raise .nodeSilent i t)) b
  let d := enterShape shape (nodeConditions old new c)
  if d.sec.adoption = .waiting then beginAdoption d else d

/-- The units discovery finds FOREIGN: NODE_FOREIGN is raised for each, whether or not it takes an entry (R133). -/
def raiseForeign (s : State) (d : Discovery) (t : State) : State :=
  forEach ((matchedUnits s d).filter (fun u => u.state == .foreign)) (fun u x => raise .nodeForeign u.identity x) t

/-- Puts a discovery's progress in place, and ends it when step 2 is done (R137). -/
def continueDiscovery (d : Discovery) (s : State) : State :=
  match d.table with
  | some table => if d.assigned s then endDiscovery d.shape table s else s.modRing fun r => { r with discovery := some d }
  | none => s.modRing fun r => { r with discovery := some d }

/-- Step 1 has ended on every side taking part: the table is built and step 2 begins (R136). -/
def beginStepTwo (d : Discovery) (s : State) : State :=
  let table := buildTable s d
  let x := { d with
    table := some table
    sideA := { d.sideA with removed := false, todo := assignments d.shape .a table }
    sideB := { d.sideB with removed := false, todo := assignments d.shape .b table } }
  continueDiscovery x (raiseForeign s d s)

/-- A parcel that gives a role: NODE-addressed ORDER (R136). -/
def Parcel.isAssignment (p : Parcel) : Bool := p.kind == kindOrder && p.mode == modeNode

/-- A node's assignment came back unserved: its run in the new table is raised, and at 20 it is SILENT there (R136). -/
def Node.unassigned (n : Node) : Node :=
  { n with missRun := satAdd 255 n.missRun
           state := if silentRun ≤ satAdd 255 n.missRun then .silent else n.state }

/-- Takes an identity off the work of both sides. -/
def Discovery.drop (identity : Nat) (d : Discovery) : Discovery :=
  { d with sideA := { d.sideA with todo := d.sideA.todo.filter (fun i => i != identity) }
           sideB := { d.sideB with todo := d.sideB.todo.filter (fun i => i != identity) } }

/-- One assignment of a good step-2 telegram of a side (R136). -/
def Discovery.readAssignment (id : PortId) (p : Parcel) (d : Discovery) : Discovery :=
  if !p.isAssignment || !(d.side id).todo.contains p.address then d
  else if p.tally = 1 then d.modSide id fun x => { x with todo := x.todo.filter (fun i => i != p.address) }
  else
    let e := { d with table := d.table.map (modWhere (fun n => n.identity == p.address) (·.unassigned)) }
    if e.table.any (fun l => stateIn l p.address == some .silent) then e.drop p.address else e

/-- A good step-2 telegram (R136): the removal is done when its telegram comes back good; each assignment is judged. -/
def Discovery.stepTwo (d : Discovery) (t : Telegram) : Discovery :=
  let e := if t.parcels.any (fun p => p.kind == kindOrder && p.mode == modeAll) then
      d.modSide t.origin fun x => { x with removed := true }
    else d
  t.parcels.foldl (fun acc p => acc.readAssignment t.origin p) e

/-- A telegram of step 1: step 2 has not begun, or it carries POSITION parcels (R135). -/
def Discovery.isStepOne (d : Discovery) (t : Telegram) : Bool :=
  d.table.isNone || t.parcels.any (fun p => p.mode == modePosition)

/-- A good telegram in STARTING (R134 to R137). -/
def discover (t : Telegram) (port : PortId) (s : State) : State :=
  match s.ring.discovery with
  | none => s
  | some d =>
    if d.isStepOne t then
      let x := d.stepOne s.ring t port
      if x.table.isNone && x.surveyed s.ring then beginStepTwo x s else continueDiscovery x s
    else continueDiscovery (d.stepTwo t) s

/-! ## Ring states (R138, R139) -/

/-- The ring enters LINE (R138). -/
def enterLine (s : State) : State := raise .ringOpen 0 (s.modRing fun r => { r with state := .line })

/-- A good telegram moves the ring state (R138); in STARTING it ends the cause of RING_DOWN (R139). -/
def moveRing (t : Telegram) (port : PortId) (s : State) : State :=
  match s.ring.state with
  | .ring => if t.whole port then s else enterLine s
  | .line => if t.whole port then endCause .ringOpen 0 (s.modRing fun r => { r with state := .ring }) else s
  | .down =>
    let u := endCause .ringDown 0 s
    if t.whole port then u.modRing fun r => { r with state := .ring } else enterLine u
  | .starting => endCause .ringDown 0 s

/-- The dark run reaches 20 (R139). -/
def goDark (s : State) : State :=
  match s.ring.state with
  | .ring => raise .ringDown 0 (s.modRing fun r => { r with state := .down })
  | .line => raise .ringDown 0 (endCause .ringOpen 0 (s.modRing fun r => { r with state := .down }))
  | .starting => raise .ringDown 0 s
  | .down => s

/-- The past period brought no good telegram: the dark run is raised, up to 20 (R139). -/
def raiseDarkRun (s : State) : State :=
  if s.ring.darkRun < darkLimit then
    let t := s.modRing fun r => { r with darkRun := r.darkRun + 1 }
    if s.ring.darkRun + 1 = darkLimit then goDark t else t
  else s

/-! ## A returned telegram (R127) -/

/-- The bad-check count of the arrival port is raised (R127). -/
def countBad (port : PortId) (s : State) : State :=
  s.modRing (·.modPort port fun p => { p with badCheck := satAdd counterLimit p.badCheck })

/-- The stale count of the origin port is raised (R127). -/
def countStale (origin : PortId) (s : State) : State :=
  s.modRing (·.modPort origin fun p => { p with stale := satAdd counterLimit p.stale })

/-- A good telegram's number stops being outstanding; its hop count is kept, and the dark run ends (R127, R139). -/
def noteGood (t : Telegram) (s : State) : State :=
  s.modRing fun r =>
    { r.modPort t.origin (fun p => { p with outstanding := none, unreturned := false, unitsPassed := some t.hops }) with
      darkRun := 0, goodSeen := true }

/-- A good telegram is read outside discovery: positions, parcels, and the missed settlements if it was the last (R128 to
R137). -/
def readGood (t : Telegram) (port : PortId) (order : List Nat) (s : State) : State :=
  let r := closeIfLast (t.parcels.foldl (fun acc p => readParcel t port p acc) { state := fillPositions t port s : Reading })
  handAll order r.out r.state

/-- A good telegram (R127). -/
def takeTelegram (t : Telegram) (port : PortId) (order : List Nat) (s : State) : State :=
  let u := moveRing t port (noteGood t s)
  if s.ring.state = .starting then discover t port u else readGood t port order u

/-- A telegram arrives at a port that receives (R127): discarded and counted, or taken. One whose leg does not agree with where it
arrived and whose number is stale too raises the bad-check count of the arrival port alone (DESIGN CHOICE, log 56). -/
def returnTelegram (port : PortId) (bytes : List Byte) (order : List Nat) (s : State) : State :=
  match readTelegram bytes with
  | none => countBad port s
  | some t =>
    if !t.legAgrees port then countBad port s
    else if (s.ring.port t.origin).outstanding = some t.number then takeTelegram t port order s
    else countStale t.origin s

/-! ## The start of a period (R126) -/

/-- The telegrams of the past period that have not come back are lost (R126). -/
def Port.loseUnreturned (p : Port) : Port :=
  { p with outstanding := none, unreturned := false, lost := if p.unreturned then satAdd counterLimit p.lost else p.lost }

/-- The past period is settled: lost telegrams, missed slots, dark run (R126, R129, R139). -/
def settlePeriod (order : List Nat) (s : State) : State :=
  if s.ring.running then
    let t := s.modRing fun r => { r with a := r.a.loseUnreturned, b := r.b.loseUnreturned }
    let u := handAll order (missedHandOvers t) (closeSettlement t)
    if s.ring.goodSeen then u else raiseDarkRun u
  else s

/-- The next entry in table order after the last one taken that a test picks, coming round to the first (R140). -/
def nextEntry (p : Node → Bool) (last : Option Nat) (l : List Node) : Option (Nat × Node) :=
  let picked := ((numbersFrom 0 l.length).zip l).filter (fun x => p x.2)
  match picked.find? (fun x => last.all (fun i => decide (i < x.1))) with
  | some x => some x
  | none => picked.head?

/-- A SILENT entry with a role, for the role rotation (R140). -/
def Node.needsRole (n : Node) : Bool := n.state == .silent && n.role.isSome

/-- An entry the status rotation reads (R140). -/
def Node.readable (n : Node) : Bool := n.state != .missing

/-- The service parcel of the period, whether it gives a role, and its entry's index (R140). -/
def serviceChoice (r : Ring) : Option (Bool × Nat × Node) :=
  match (if r.roleTurn then nextEntry (·.needsRole) r.roleLast r.nodes else none) with
  | some x => some (true, x)
  | none => (nextEntry (·.readable) r.statusLast r.nodes).map fun x => (false, x)

/-- The two rotations take the periods in turn (R140). -/
def Ring.turnService (r : Ring) : Ring :=
  let x := { r with roleTurn := !r.roleTurn }
  match serviceChoice r with
  | some (true, i, _) => { x with roleLast := some i }
  | some (false, i, _) => { x with statusLast := some i }
  | none => x

/-- The service parcel, if there is one. -/
def servicePart (r : Ring) : List Parcel :=
  match serviceChoice r with
  | some (role, _, e) => [serviceParcel role e]
  | none => []

/-- The parcels of the schedule of R131 for a port, with the service parcel chosen for the period. -/
def scheduleParcels (s : State) (p : Port) (service : List Parcel) : List Parcel :=
  let fixed := exchanges s
  let tests := testParcels s
  let places := maxParcels - (fixed.length + tests.length + service.length)
  fixed ++ (fetchedBeacons s p places).map fetchParcel ++ tests ++ service

/-- The parcels of discovery for a side: its next group in step 1, its removal and assignments in step 2, none when it has
nothing to do (R134, R136, log 15). -/
def discoveryParcels (d : Discovery) (id : PortId) : List Parcel :=
  match d.table with
  | none =>
    match (d.side id).nextGroup with
    | some g => (numbersFrom (groupStart g) 16).map identifyParcel
    | none => []
  | some table =>
    let removal := if (d.side id).removed then [] else [removalParcel]
    removal ++ (((d.side id).todo.take (maxParcels - removal.length)).filterMap
      (fun i => table.find? (fun n => n.identity == i))).map assignParcel

/-- The parcels a port sends in the present ring state (R131, R134, R139). While the map is invalid, step 2 sends nothing and
the tables are empty, so only the service parcel is left of the schedule. -/
def sendParcels (s : State) (id : PortId) (service : List Parcel) : List Parcel :=
  match s.ring.state with
  | .starting =>
    match s.ring.discovery with
    | some d => discoveryParcels d id
    | none => []
  | .down => [downParcel]
  | .ring | .line => scheduleParcels s (s.ring.port id) service

/-- A port sends a telegram (R126): the next number, outstanding until it comes back. -/
def Port.send (id : PortId) (ps : List Parcel) (p : Port) : Port :=
  { p with
    number := p.number + 1, outstanding := some (p.number + 1), unreturned := true, sentLast := true
    telegram := telegramBytes id (p.number + 1) ps, sent := satAdd counterLimit p.sent }

/-- A port that does not send uses no number and has no outstanding number (R126). -/
def Port.rest (p : Port) : Port :=
  { p with outstanding := none, unreturned := false, sentLast := false, telegram := [] }

/-- The last beacon a port fetched in this telegram (R131). R131 goes on after the last beacon fetched in the port's previous telegram;
where that telegram fetched none, the model keeps the last beacon of an earlier one (DESIGN CHOICE, log 62). -/
def Port.noteFetch (fetched : List Beacon) (p : Port) : Port :=
  match fetched.getLast? with
  | some b => { p with lastFetch := some b.number }
  | none => p

/-- The ring sends the schedule of R131 in its present state. -/
def Ring.fullSchedule (r : Ring) : Bool := r.state == .ring || r.state == .line

/-- The beacons a port's telegram fetches in the present period. -/
def periodFetches (s : State) (id : PortId) (service : List Parcel) : List Beacon :=
  if s.ring.fullSchedule then
    fetchedBeacons s (s.ring.port id) (maxParcels - ((exchanges s).length + (testParcels s).length + service.length))
  else []

/-- One port's part of a period's sending. -/
def sendOn (s : State) (service : List Parcel) (id : PortId) : Port :=
  if s.ring.senders.contains id then
    ((s.ring.port id).send id (sendParcels s id service)).noteFetch (periodFetches s id service)
  else (s.ring.port id).rest

/-- The test units addressed in a period, by a test parcel or the service parcel (R132). -/
def addressedTests (s : State) : List Nat :=
  if s.ring.fullSchedule then
    ((s.sec.testUnits.filter (fun u => u.phase != .idle)).map (·.node) ++
      (match serviceChoice s.ring with
        | some (_, _, e) => if e.kind = .testUnit ∧ e.heard = true then [e.identity] else []
        | none => [])).eraseDups
  else []

/-- The new period: ports are chosen, telegrams built and sent (R125, R126, R131). -/
def sendPeriod (s : State) : State :=
  let service := if s.ring.fullSchedule then servicePart s.ring else []
  s.modRing fun r =>
    let turned := if r.fullSchedule then r.turnService else r
    { turned with
      serviceEntry := if r.fullSchedule then (serviceChoice r).map (fun x => x.2.1) else none
      a := sendOn s service .a, b := sendOn s service .b, recovery := r.scheduled.isEmpty, running := true, goodSeen := false
      roleSent := r.fullSchedule, settledFeeders := [], settledSwitches := [], settledBeacons := []
      testSent := addressedTests s, testServed := [] }

end Sys2Proof.Machine
end

