-- ==== Sys2Proof/Machine/MapStore.lean ====
section
/-! DEFINITION. The Map Store's shared operations (09, 10.6): the map records as the pages hold them, their validation, and
the installation of the working tables from them. -/

namespace Sys2Proof.Machine

/-! ## The run of pages 1 to 63 (R172, 10.6) -/

/-- The address of the first byte of the run: page 1, offset 0 (R172). -/
def runStart : Nat := 256

/-- The map's records begin after its header of 14 bytes (10.6). -/
def headerSize : Nat := 14

/-- A one-byte field at an offset of the run. -/
def mapByte (m : Memory) (o : Nat) : Nat := (readByte m (runStart + o)).toNat

/-- A two-byte field at an offset of the run, low byte first. -/
def mapWord (m : Memory) (o : Nat) : Nat := num16 (readByte m (runStart + o)) (readByte m (runStart + o + 1))

/-- The counts of records in the header (10.6). -/
structure MapCounts where
  sections : Nat
  feeders : Nat
  switches : Nat
  beacons : Nat
  tests : Nat
  routes : Nat
  globals : Nat
deriving DecidableEq, Repr

/-- Reads the counts of the header. -/
def readCounts (m : Memory) : MapCounts where
  sections := mapByte m 4
  feeders := mapByte m 5
  switches := mapByte m 6
  beacons := mapByte m 7
  tests := mapByte m 8
  routes := mapWord m 9
  globals := mapByte m 11

/-- Where the feeder records begin. -/
def MapCounts.feedersAt (c : MapCounts) : Nat := headerSize + 9 * c.sections
/-- Where the switch records begin. -/
def MapCounts.switchesAt (c : MapCounts) : Nat := c.feedersAt + 20 * c.feeders
/-- Where the beacon records begin. -/
def MapCounts.beaconsAt (c : MapCounts) : Nat := c.switchesAt + 7 * c.switches
/-- Where the test unit records begin. -/
def MapCounts.testsAt (c : MapCounts) : Nat := c.beaconsAt + 6 * c.beacons
/-- Where the route entries begin. -/
def MapCounts.routesAt (c : MapCounts) : Nat := c.testsAt + 8 * c.tests
/-- Where the global record begins. -/
def MapCounts.globalAt (c : MapCounts) : Nat := c.routesAt + 4 * c.routes
/-- The end of the last record. -/
def MapCounts.endAt (c : MapCounts) : Nat := c.globalAt + 33 * c.globals

/-! ## The records (R172, 10.6) -/

/-- A section record of the map. -/
structure SectionRecord where
  number : Nat
  rMax : Nat
  window : Nat
  delay : Nat
  blind : Nat
  rClear : Nat
deriving DecidableEq, Repr

/-- A feeder record of the map. -/
structure FeederRecord where
  number : Nat
  sect : Nat
  node : Nat
  settings : ProtectionSettings
deriving DecidableEq, Repr

/-- A switch record of the map. -/
structure SwitchRecord where
  number : Nat
  node : Nat
  supply : Nat
  leg : Nat
  tThrow : Nat
  hold : Nat
deriving DecidableEq, Repr

/-- A beacon record of the map. -/
structure BeaconRecord where
  number : Nat
  node : Nat
  sect : Nat
  first : Nat
  second : Nat
deriving DecidableEq, Repr

/-- A test unit record of the map. -/
structure TestRecord where
  number : Nat
  node : Nat
  rTest : Nat
  channels : List Nat
deriving DecidableEq, Repr

/-- A route entry of the map. -/
structure RouteRecord where
  code : Nat
  switch : Nat
  leg : Nat
deriving DecidableEq, Repr

/-- The global record of the map. -/
structure GlobalRecord where
  tHold : Nat
  tReq : Nat
  tSight : Nat
  tSilence : Nat
  modeA : Nat
  modeB : Nat
  enables : List Nat
deriving DecidableEq, Repr

/-- Eight protection settings in the order of SET_PROTECTION, two bytes each, read through a function of the offset. -/
def readSettings (word : Nat → Nat) (o : Nat) : ProtectionSettings where
  dStart := word o
  dHold := word (o + 2)
  kMin := word (o + 4)
  kMax := word (o + 6)
  lBase := word (o + 8)
  aVeh := word (o + 10)
  iOv := word (o + 12)
  nOv := word (o + 14)

/-- Reads a section record. -/
def readSection (m : Memory) (o : Nat) : SectionRecord where
  number := mapByte m o
  rMax := mapByte m (o + 1)
  window := mapWord m (o + 2)
  delay := mapWord m (o + 4)
  blind := mapByte m (o + 6)
  rClear := mapWord m (o + 7)

/-- Reads a feeder record. -/
def readFeeder (m : Memory) (o : Nat) : FeederRecord where
  number := mapByte m o
  sect := mapByte m (o + 1)
  node := mapWord m (o + 2)
  settings := readSettings (mapWord m) (o + 4)

/-- Reads a switch record. -/
def readSwitch (m : Memory) (o : Nat) : SwitchRecord where
  number := mapByte m o
  node := mapWord m (o + 1)
  supply := mapByte m (o + 3)
  leg := mapByte m (o + 4)
  tThrow := mapByte m (o + 5)
  hold := mapByte m (o + 6)

/-- Reads a beacon record. -/
def readBeacon (m : Memory) (o : Nat) : BeaconRecord where
  number := mapByte m o
  node := mapWord m (o + 1)
  sect := mapByte m (o + 3)
  first := mapByte m (o + 4)
  second := mapByte m (o + 5)

/-- Reads a test unit record. -/
def readTest (m : Memory) (o : Nat) : TestRecord where
  number := mapByte m o
  node := mapWord m (o + 1)
  rTest := mapByte m (o + 3)
  channels := [mapByte m (o + 4), mapByte m (o + 5), mapByte m (o + 6), mapByte m (o + 7)]

/-- Reads a route entry. -/
def readRoute (m : Memory) (o : Nat) : RouteRecord where
  code := mapWord m o
  switch := mapByte m (o + 2)
  leg := mapByte m (o + 3)

/-- Reads the global record. -/
def readGlobal (m : Memory) (o : Nat) : GlobalRecord where
  tHold := mapWord m o
  tReq := mapWord m (o + 2)
  tSight := mapWord m (o + 4)
  tSilence := mapByte m (o + 6)
  modeA := mapByte m (o + 7)
  modeB := mapByte m (o + 8)
  enables := (numbersFrom (o + 9) 24).map (mapByte m)

/-- A map's records, each with the offset of the run it begins at. -/
structure MapRecords where
  version : Nat
  sections : List (Nat × SectionRecord)
  feeders : List (Nat × FeederRecord)
  switches : List (Nat × SwitchRecord)
  beacons : List (Nat × BeaconRecord)
  tests : List (Nat × TestRecord)
  routes : List (Nat × RouteRecord)
  globalAt : Nat
  global : GlobalRecord
deriving DecidableEq, Repr

/-- `n` records of a size from an offset. -/
def readRecords {α : Type} (read : Nat → α) (start size n : Nat) : List (Nat × α) :=
  (numbersFrom 0 n).map fun i => (start + size * i, read (start + size * i))

/-- Reads the records of a map as its header counts them. -/
def readMap (m : Memory) : MapRecords :=
  let c := readCounts m
  { version := mapWord m 2
    sections := readRecords (readSection m) headerSize 9 c.sections
    feeders := readRecords (readFeeder m) c.feedersAt 20 c.feeders
    switches := readRecords (readSwitch m) c.switchesAt 7 c.switches
    beacons := readRecords (readBeacon m) c.beaconsAt 6 c.beacons
    tests := readRecords (readTest m) c.testsAt 8 c.tests
    routes := readRecords (readRoute m) c.routesAt 4 c.routes
    globalAt := c.globalAt
    global := readGlobal m c.globalAt }

/-! ## Validation (R173, R180) -/

/-- A check: the offset of the run where its fault is, and whether it is passed. -/
abbrev Check := Nat × Bool

/-- The offset of the first check that fails. -/
def firstFault (l : List Check) : Option Nat := (l.find? (fun c => !c.2)).map (·.1)

/-- A number lies in a range. -/
def within (lo hi n : Nat) : Bool := decide (lo ≤ n) && decide (n ≤ hi)

/-- A setting's checks, two bytes each, in the order of SET_PROTECTION (R30). -/
def ProtectionSettings.checks (o : Nat) (p : ProtectionSettings) : List Check :=
  [(o, within 10 500 p.dStart), (o + 2, within 0 p.dStart p.dHold), (o + 4, within 1 20 p.kMin),
    (o + 6, within p.kMin 200 p.kMax), (o + 8, within 200 5000 p.lBase), (o + 10, within 0 500 p.aVeh),
    (o + 12, within 500 6000 p.iOv), (o + 14, within 1 4000 p.nOv)]

/-- Every setting lies in its range (R30, R46). -/
def ProtectionSettings.inRange (p : ProtectionSettings) : Bool := (p.checks 0).all (·.2)

/-- The header's counts (R172, R173). -/
def MapCounts.checks (c : MapCounts) : List Check :=
  [(4, within 1 16 c.sections), (5, within 1 24 c.feeders), (6, within 0 24 c.switches), (7, within 0 24 c.beacons),
    (8, within 0 6 c.tests), (9, within 0 256 c.routes), (11, within 1 1 c.globals),
    (5, decide (c.feeders + c.switches + c.beacons + c.tests ≤ 64))]

/-- Checks over the records of one kind, each with the records of that kind before it. -/
def checksOver {α : Type} (f : List α → Nat → α → List Check) : List α → List (Nat × α) → List Check
  | _, [] => []
  | earlier, (o, r) :: rest => f earlier o r ++ checksOver f (earlier ++ [r]) rest

/-- The section records (R173). Of two records with one number the later one's number field is at fault (DESIGN CHOICE, log 61); so also for
feeders, switches, beacons and test units. -/
def sectionChecks (earlier : List SectionRecord) (o : Nat) (r : SectionRecord) : List Check :=
  [(o, within 1 16 r.number && !earlier.any (fun x => x.number == r.number)), (o + 1, within 0 3 r.rMax),
    (o + 2, within 10 3600 r.window), (o + 4, within 10 300 r.delay), (o + 6, within 0 1 r.blind),
    (o + 7, within 1 500 r.rClear)]

/-- A node identity is in range and not used before. -/
def freshNode (used : List Nat) (node : Nat) : Bool := within 1 4095 node && !used.contains node

/-- The feeder records; the later of two with one number is at fault (DESIGN CHOICE, log 61). -/
def feederChecks (sects : List Nat) (earlier : List FeederRecord) (o : Nat) (r : FeederRecord) : List Check :=
  [(o, within 1 24 r.number && !earlier.any (fun x => x.number == r.number)), (o + 1, sects.contains r.sect),
    (o + 2, freshNode (earlier.map (·.node)) r.node)] ++ r.settings.checks (o + 4)

/-- The switch records; `used` holds the identities of the feeder records. The later of two with one number is at fault (DESIGN
CHOICE, log 61). -/
def switchChecks (sects used : List Nat) (earlier : List SwitchRecord) (o : Nat) (r : SwitchRecord) : List Check :=
  [(o, within 1 24 r.number && !earlier.any (fun x => x.number == r.number)),
    (o + 1, freshNode (used ++ earlier.map (·.node)) r.node), (o + 3, sects.contains r.supply), (o + 4, within 1 2 r.leg),
    (o + 5, within 5 50 r.tThrow), (o + 6, within 0 1 r.hold)]

/-- The beacon records; the later of two with one number is at fault, and the second field of a beacon that names one approach switch
twice (DESIGN CHOICE, log 61). -/
def beaconChecks (sects switches used : List Nat) (earlier : List BeaconRecord) (o : Nat) (r : BeaconRecord) : List Check :=
  [(o, within 1 24 r.number && !earlier.any (fun x => x.number == r.number)),
    (o + 1, freshNode (used ++ earlier.map (·.node)) r.node), (o + 3, sects.contains r.sect),
    (o + 4, r.first == 0 || switches.contains r.first),
    (o + 5, r.second == 0 || (r.first != 0 && switches.contains r.second && r.second != r.first))]

/-- The channels of a test unit record; `named` holds the sections that earlier channels name. -/
def channelChecks (sects : List Nat) : List Nat → Nat → List Nat → List Check
  | _, _, [] => []
  | named, o, c :: rest =>
    (o, c == 0 || (sects.contains c && !named.contains c)) :: channelChecks sects (c :: named) (o + 1) rest

/-- The test unit records; the later of two with one number is at fault (DESIGN CHOICE, log 61). -/
def testChecks (sects used : List Nat) (earlier : List TestRecord) (o : Nat) (r : TestRecord) : List Check :=
  [(o, within 1 6 r.number && !earlier.any (fun x => x.number == r.number)),
    (o + 1, freshNode (used ++ earlier.map (·.node)) r.node), (o + 3, within 10 200 r.rTest)] ++
    channelChecks sects (earlier.flatMap (·.channels)) (o + 4) r.channels

/-- The route entries. -/
def routeChecks (switches : List Nat) (_ : List RouteRecord) (o : Nat) (r : RouteRecord) : List Check :=
  [(o, within 1 999 r.code), (o + 2, switches.contains r.switch), (o + 3, within 1 2 r.leg)]

/-- The global record. -/
def globalChecks (o : Nat) (r : GlobalRecord) : List Check :=
  [(o, within 10 300 r.tHold), (o + 2, within 30 600 r.tReq), (o + 4, within 60 1800 r.tSight),
    (o + 6, within 0 60 r.tSilence), (o + 7, within 0 3 r.modeA), (o + 8, within 0 3 r.modeB)] ++
    ((numbersFrom (o + 9) 24).zip r.enables).map (fun x => (x.1, within 0 1 x.2))

/-- Check 5 of R173: every section is named by one or two feeder records. -/
def supplyChecks (r : MapRecords) : List Check :=
  r.sections.map fun x => (x.1, within 1 2 (r.feeders.filter (fun f => f.2.sect == x.2.number)).length)

/-- Checks 4 and 5 of R173, in the order of the records and their fields. -/
def recordChecks (r : MapRecords) : List Check :=
  let sects := r.sections.map (·.2.number)
  let switches := r.switches.map (·.2.number)
  let feederNodes := r.feeders.map (·.2.node)
  let switchNodes := feederNodes ++ r.switches.map (·.2.node)
  checksOver sectionChecks [] r.sections ++
  checksOver (feederChecks sects) [] r.feeders ++
  checksOver (switchChecks sects feederNodes) [] r.switches ++
  checksOver (beaconChecks sects switches switchNodes) [] r.beacons ++
  checksOver (testChecks sects (switchNodes ++ r.beacons.map (·.2.node))) [] r.tests ++
  checksOver (routeChecks switches) [] r.routes ++
  globalChecks r.globalAt r.global ++
  supplyChecks r

/-- Check 1 of R173: page 1 is WRITTEN and the format mark A55Ah stands at its start. -/
def headerGood (st : Store) : Bool := st.written.contains 1 && mapWord st.mem 0 == 0xA55A

/-- Check 3 of R173: the CRC over the record bytes. -/
def checkGood (m : Memory) : Bool :=
  mapWord m 12 == (crc16 (readBytes m (runStart + headerSize) ((readCounts m).endAt - headerSize))).toNat

/-- The offset of the run at which the checks of R173 find a map at fault. -/
def checkedFault (st : Store) : Option Nat :=
  if headerGood st then
    match firstFault (readCounts st.mem).checks with
    | some o => some o
    | none => if checkGood st.mem then firstFault (recordChecks (readMap st.mem)) else some 12
  else some 0

/-- The bytes of pages 1 to 63, one after another. -/
def runSize : Nat := 63 * 256

/-- The offset of the run at which a map is at fault, or none for a valid map (R173). A map that an operation cut short by
reset left fails in any case, at a free place where the checks find none (R166, log 10). -/
def mapFault (st : Store) : Option Nat :=
  match checkedFault st with
  | some o => some o
  | none => st.cutShort.map fun d => Config.cutFault d % runSize

/-! ## The working tables a map gives (R172, R175, R176) -/

/-- The leg of a checked code. -/
def legOf (n : Nat) : Leg := if n = 2 then .turn else .straight

/-- The port mode of a checked code (10.1). -/
def modeOf : Nat → PortMode
  | 0 => .openMode | 1 => .shut | 2 => .auto | _ => .autoShut

/-- The test unit and channel whose record names a section (R172). -/
def channelFor (r : MapRecords) (n : Nat) : Option TestChannel :=
  r.tests.findSome? fun t => (indexWhere (fun c => c == n) t.2.channels).map fun i => { unit := t.2.number, channel := i + 1 }

/-- A section record as installation builds it (R4). -/
def newSection (start : SectionState) (r : MapRecords) (x : SectionRecord) : Section where
  number := x.number
  state := start
  feeders := (r.feeders.filter (fun f => f.2.sect == x.number)).map (·.2.number)
  test := channelFor r x.number
  settings := { rMax := x.rMax, window := x.window, delay := x.delay, blind := x.blind == 1, rClear := x.rClear }

/-- A feeder record as installation builds it (R6). -/
def newFeeder (f : FeederRecord) : Feeder := { number := f.number, sect := f.sect, node := f.node }

/-- A discrimination context as installation builds it (R29, R30). -/
def newContext (f : FeederRecord) : Context := { number := f.number, settings := f.settings }

/-- A test unit record as installation builds it (R63). -/
def newTestUnit (t : TestRecord) : TestUnit := { number := t.number, node := t.node, rTest := t.rTest }

/-- A switch record as installation builds it (R74). -/
def newSwitch (w : SwitchRecord) : SwitchPoint :=
  { number := w.number, node := w.node, supply := w.supply, defaultLeg := legOf w.leg, tThrow := w.tThrow
    hold := w.hold == 1 }

/-- A beacon record as installation builds it (R102). -/
def newBeacon (b : BeaconRecord) : Beacon :=
  { number := b.number, node := b.node, sect := b.sect, approach := [b.first, b.second].filter (fun n => n != 0) }

/-- The nodes of the map in map order, with their kinds and roles (R136, R172). -/
def mapNodes (r : MapRecords) : List MapNode :=
  r.feeders.map (fun x => { identity := x.2.node, kind := .feederUnit, role := some { kind := .feeder, index := x.2.number } }) ++
  r.switches.map (fun x => { identity := x.2.node, kind := .switchUnit, role := some { kind := .switch, index := x.2.number } }) ++
  r.beacons.map (fun x => { identity := x.2.node, kind := .beaconUnit, role := some { kind := .beacon, index := x.2.number } }) ++
  r.tests.map (fun x => { identity := x.2.node, kind := .testUnit, role := none })

/-- What the installed map gives to the whole part. -/
def installedOf (r : MapRecords) : Installed where
  valid := true
  version := r.version
  tHold := r.global.tHold
  tReq := r.global.tReq
  tSight := r.global.tSight
  tSilence := r.global.tSilence
  routes := r.routes.map fun x => { code := x.2.code, switch := x.2.switch, leg := legOf x.2.leg }
  nodes := mapNodes r

/-- A port takes its mode from the map, its latch cleared (R123). -/
def Port.install (mode : Nat) (p : Port) : Port := { p with mode := modeOf mode, latch := false }

/-- The silence timer runs from now with T_silence, or not at all with 0 (R153). -/
def silenceFrom (now : Time) (tSilence : Nat) : Option Time := if tSilence = 0 then none else some now

/-- Puts a map's working tables in place, every section in `start` (R4, R6, R29, R63, R74, R102, R123, R149, R153). The silence
timer starts from the installation even when an APPLY_MAP is carried out after an expiry and before the next valid frame, where
R153's two sentences differ (DESIGN CHOICE, log 53). -/
def installTables (start : SectionState) (r : MapRecords) (s : State) : State :=
  { s with
    map := installedOf r
    sec := { s.sec with
      sections := sortBy (·.number) (r.sections.map (fun x => newSection start r x.2))
      feeders := sortBy (·.number) (r.feeders.map (fun x => newFeeder x.2))
      testUnits := sortBy (·.number) (r.tests.map (fun x => newTestUnit x.2)) }
    prot := sortBy (·.number) (r.feeders.map (fun x => newContext x.2))
    switches := sortBy (·.number) (r.switches.map (fun x => newSwitch x.2))
    reg := { s.reg with beacons := sortBy (·.number) (r.beacons.map (fun x => newBeacon x.2)) }
    ring := { s.ring with a := s.ring.a.install r.global.modeA, b := s.ring.b.install r.global.modeB }
    cond := { s.cond with
      enables := r.global.enables.map (fun n => n == 1)
      silence := silenceFrom s.time.now r.global.tSilence } }

/-! ## Installation by APPLY_MAP (R175) -/

/-- The kinds whose causes belong to the tables that APPLY_MAP rebuilds (R144). -/
def CondKind.rebuilt : CondKind → Bool
  | .lockout | .breakerFail | .protectionBlind | .switchFault => true
  | .trip | .misroute | .emergency | .ringDown | .ringOpen | .nodeMissing | .nodeSilent | .roleConflict | .holdLong
  | .switchQueueFull | .vehicleFault | .vehicleTableFull | .tripRecordOverrun | .autonomous | .mapInvalid | .nodeForeign
  | .contactSequence | .vehicleEvicted | .pinsReleased | .conditionOverflow => false

/-- The rebuilt tables end the causes of their level conditions (R144, R175). -/
def endRebuilt (s : State) : State :=
  s.modCond fun u =>
    { u with entries := modWhere (fun e => e.kind.rebuilt) (fun e => { e with cause := some .ended }) u.entries }

/-- Every suspect watch ends (R54, R175). -/
def endWatches (s : State) : State := s.modTrips (·.map fun r => { r with watching := false })

/-- A vehicle whose section the new map does not have loses it (R100). -/
def Vehicle.rehome (sects : List Nat) (v : Vehicle) : Vehicle :=
  if v.inSight && v.sect.any (fun n => !sects.contains n) then { v with sect := none } else v

/-- The vehicle table is kept (R100, R175). -/
def rehomeVehicles (s : State) : State :=
  let sects := s.sec.sections.map (·.number)
  s.modVehicles (·.map (·.rehome sects))

/-- Records whose new sight timeout already lies in the past go OUT_OF_SIGHT at once (R114). -/
def sightAfterApply (s : State) : State :=
  forEach ((s.reg.vehicles.filter (·.sightDue s.time.now s.map.tSight)).map (·.number)) goOutOfSight s

/-- A port's telegram in flight is withdrawn: its return will be stale (R143, R175). -/
def Port.withdraw (p : Port) : Port := { p with outstanding := none }

/-- Outstanding telegram numbers are withdrawn (R143, R175). -/
def withdrawTelegrams (s : State) : State := s.modRing fun r => { r with a := r.a.withdraw, b := r.b.withdraw }

/-- The Ring Controller forgets what belongs to the old tables: fetch and service rotations, settled indices (R131, R140,
log 21); the turn is the role rotation's (log 51). The test units addressed in the period stay, since R132 counts each period in
which a parcel was sent to one. -/
def restartSchedule (s : State) : State :=
  s.modRing fun r =>
    { r with a := { r.a with lastFetch := none }, b := { r.b with lastFetch := none }, roleTurn := true, roleLast := none
             statusLast := none, serviceEntry := none, settledFeeders := [], settledSwitches := [], settledBeacons := [] }

/-- No adoption follows APPLY_MAP (R28). -/
def endAdoption (s : State) : State := { s with sec := { s.sec with adoption := .over } }

/-- Installs a valid map by APPLY_MAP (R175). -/
def applyMap (r : MapRecords) (s : State) : State :=
  sightAfterApply (rehomeVehicles (removeEntry .mapInvalid 0 (startDiscovery (restartSchedule (withdrawTelegrams
    (endAdoption (endWatches (endRebuilt (installTables .isolated r s)))))))))

/-! ## Reset (R166, R167, R176) -/

/-- The time-base trim of page 0: a signed byte, taken as 0 outside −100 to +100 (R167). -/
def trimOf (m : Memory) : Int :=
  let t := (readByte m 11).toInt
  if t < -100 ∨ 100 < t then 0 else t

/-- A page write cut short by reset (R166): the first bytes hold the data, the rest reads FFh; how many is a free value. -/
def cutWrite (page : Nat) (data : List Byte) (programmed : Nat) (m : Memory) : Memory :=
  writeBytes m (256 * page) (data.take (min 255 programmed))

/-- The store after a reset: not busy, a running operation cut short (R166, R171): which bytes a cut erase had reached is a free
value. -/
def Store.cut (draws : Nat) (st : Store) : Store :=
  match st.busy with
  | none => st
  | some (.write page data _) =>
    { st with mem := cutWrite page data (Config.bytesProgrammed draws) st.mem, busy := none, cutShort := some draws }
  | some (.erase _) =>
    { st with mem := erasePartly (Config.byteErased draws) st.mem, busy := none, cutShort := some draws }

/-- The part with empty tables, as a reset that finds no valid map leaves it before MAP_INVALID is raised (R176). -/
def blankState (s : State) (fastRate linkA linkB : Bool) : State where
  pending := s.pending
  draws := s.draws + (if s.store.busy.isSome then 1 else 0)
  time := { trim := trimOf s.store.mem }
  map := {}
  sec := {}
  prot := []
  switches := []
  reg := {}
  ring := { a := { linkUp := linkA }, b := { linkUp := linkB } }
  cond := { enables := defaultEnables, silence := some 0 }
  link := { fast := fastRate }
  store := s.store.cut s.draws

/-- The end of a reset (R155, R167, R176). -/
def resetPart (fastRate linkA linkB : Bool) (s : State) : State :=
  let t := blankState s fastRate linkA linkB
  if (mapFault t.store).isNone then installTables .unsettled (readMap t.store.mem) t else raise .mapInvalid 0 t

end Sys2Proof.Machine
end

