-- ==== Sys2Proof/Machine/PartCommands.lean ====
section
/-! DEFINITION. RESET and the emergency-open input (R25, R26, R176). -/

namespace Sys2Proof.Machine

/-- RESET (R176): the strap and the links are sensed, the map is validated and installed. -/
def execReset (fastRate linkA linkB : Bool) (s : State) : Host.Outcome State Fault Refusal :=
  .next (resetPart fastRate linkA linkB s)

/-- Each section is handled by its state (R26). -/
def emergencyOpen (s : State) : State :=
  forEach (s.sec.sections.map (·.number))
    (fun n t => match t.section? n with
      | some x => makeDead x t
      | none => t) s

/-- The debounced input (R25). -/
def setEmergency (on : Bool) (s : State) : State := { s with sec := { s.sec with emergency := on } }

/-- EMERGENCY_ASSERTED (R25, R26); nothing when the input is taken as asserted already. -/
def execEmergencyAsserted (s : State) : Host.Outcome State Fault Refusal :=
  if s.sec.emergency then .next s else .next (emergencyOpen (raise .emergency 0 (setEmergency true s)))

/-- EMERGENCY_RELEASED (R25). -/
def execEmergencyReleased (s : State) : Host.Outcome State Fault Refusal :=
  if s.sec.emergency then .next (endCause .emergency 0 (setEmergency false s)) else .next s

end Sys2Proof.Machine
end

