-- ==== Sys2Proof/Machine/Replies.lean ====
section
/-! DEFINITION. The bodies the part sends (10.1, 10.4): codes, absent values and records as bytes. -/

namespace Sys2Proof.Machine

/-! ## Result codes (10.1, R162) -/

/-- OK. -/
def resultOk : Byte := 0x00
/-- UNKNOWN_KIND. -/
def resultUnknownKind : Byte := 0x01
/-- BAD_LENGTH. -/
def resultBadLength : Byte := 0x02
/-- OUT_OF_RANGE. -/
def resultOutOfRange : Byte := 0x03
/-- NOT_FOUND. -/
def resultNotFound : Byte := 0x04
/-- REFUSED_STATE. -/
def resultRefusedState : Byte := 0x05
/-- BUSY. -/
def resultBusy : Byte := 0x06
/-- EMERGENCY. -/
def resultEmergency : Byte := 0x07
/-- PAGE_WRITTEN. -/
def resultPageWritten : Byte := 0x08
/-- MAP_INVALID. -/
def resultMapInvalid : Byte := 0x09

/-! ## Absent values (R177) -/

/-- A flag. -/
def yes (b : Bool) : Byte := if b then 1 else 0

/-- A subject number or place whose range starts at 1: 00h when absent. -/
def place (n : Option Nat) : Byte := u8 (n.getD 0)

/-- A vehicle number or node identity: 0000h when absent. -/
def number16 (n : Option Nat) : List Byte := le16 (n.getD 0)

/-- Any other unsigned two-byte value: FFFFh when absent. -/
def value16 (n : Option Nat) : List Byte := le16 (n.getD 65535)

/-- A signed current: 8000h when absent. -/
def current16 (i : Option Int) : List Byte :=
  match i with
  | some x => leSigned x
  | none => [0x00, 0x80]

/-- An optional part time: a presence byte and the four bytes of the time. -/
def optTime (t : Option Time) : List Byte :=
  match t with
  | some x => 1 :: le32 x.toNat
  | none => [0, 0, 0, 0, 0]

/-- An optional timestamp as a part time; an aged one keeps its value (R1). -/
def optStamp (t : Option Stamp) : List Byte := optTime (t.map (·.t))

/-- A list of fixed capacity: the entries first, unused positions absent (R177). -/
def padded {α : Type} (n : Nat) (l : List α) : List (Option α) := (l.take n).map some ++ List.replicate (n - l.length) none

/-! ## Codes (10.1) -/

/-- The code of a section state. -/
def SectionState.code : SectionState → Nat
  | .unsettled => 0 | .isolated => 1 | .dead => 2 | .closing => 3 | .live => 4 | .opening => 5 | .tripped => 6
  | .recloseWait => 7 | .testing => 8 | .lockedOut => 9

/-- The code of a lock reason. -/
def LockReason.code : LockReason → Nat
  | .tripLimit => 1 | .testFailed => 2 | .testUnavailable => 3 | .vehicleSuspect => 4 | .failToClose => 5
  | .switchOnFault => 6 | .noReclose => 7 | .nodeAbsent => 8

/-- The code of an optional lock reason, 0 for none. -/
def reasonCode (r : Option LockReason) : Nat :=
  match r with
  | some x => x.code
  | none => 0

/-- The code of an optional destination, FFh for none. -/
def destinationCode (d : Option Destination) : Nat :=
  match d with
  | some .dead => 2
  | some (.lockedOut _) => 9
  | some .recloseWait => 7
  | none => 255

/-- The lock reason a destination carries (R3). -/
def Destination.reason? : Destination → Option LockReason
  | .lockedOut r => some r
  | .dead => none
  | .recloseWait => none

/-- The code of an optional closing origin, 0 for none. -/
def originCode (o : Option ClosingOrigin) : Nat :=
  match o with
  | some .energise => 1
  | some .reclose => 2
  | some .adoption => 3
  | none => 0

/-- The code of a window condition. -/
def WindowCond.code : WindowCond → Nat
  | .closed => 0 | .opened => 1 | .expired => 2

/-- The code of a test phase. -/
def TestPhase.code : TestPhase → Nat
  | .idle => 0 | .ordered => 1 | .injecting => 2 | .stopping => 3

/-- The code of a test result kind. -/
def TestResultKind.code : TestResultKind → Nat
  | .pass => 1 | .fail => 2 | .noSupply => 3 | .liveLine => 4 | .timeout => 5

/-- The code of a breaker position. -/
def Breaker.code : Breaker → Nat
  | .unknown => 0 | .opened => 1 | .closed => 2 | .travelling => 3

/-- The code of a feeder's health. -/
def Health.code : Health → Nat
  | .ok => 0 | .failToClose => 1 | .failToOpen => 2

/-- The code of a protection status. -/
def ContextStatus.code : ContextStatus → Nat
  | .idle => 0 | .armed => 1 | .blind => 2

/-- The code of a trip cause. -/
def TripCause.code : TripCause → Nat
  | .rise => 1 | .overcurrent => 2 | .saturation => 3 | .ownRelease => 4 | .unexpectedOpen => 5

/-- The code of an optional trip outcome, 0 for none. -/
def outcomeCode (o : Option TripOutcome) : Nat :=
  match o with
  | some .reclosed => 1
  | some (.lockedOut _) => 2
  | some .cancelled => 3
  | none => 0

/-- The lock reason of a LOCKED_OUT outcome. -/
def outcomeReason (o : Option TripOutcome) : Option LockReason :=
  match o with
  | some (.lockedOut r) => some r
  | _ => none

/-- The code of a switch state. -/
def SwitchState.code : SwitchState → Nat
  | .set => 0 | .moving => 1 | .uncertain => 2 | .fault => 3

/-- The code of an optional fault reason, 0 for none. -/
def faultReasonCode (r : Option FaultReason) : Nat :=
  match r with
  | some .discrepancy => 1
  | some .throwTimeout => 2
  | some .contactsBoth => 3
  | some .passageWhileMoving => 4
  | some .dewirement => 5
  | none => 0

/-- The code of a request origin. -/
def RequestOrigin.code : RequestOrigin → Nat
  | .route => 1 | .default => 2 | .station => 3

/-- The code of a pole state. -/
def Pole.code : Pole → Nat
  | .unknown => 0 | .onWire => 1 | .down => 2

/-- The code of a fault kind. -/
def FaultKind.code : FaultKind → Nat
  | .insulation => 1 | .dewired => 2 | .regenOvervolt => 3 | .traction => 4 | .poleHead => 5 | .auxSupply => 6

/-- The code of a severity. -/
def Severity.code : Severity → Nat
  | .minor => 1 | .major => 2

/-- The code of a fault source. -/
def FaultSource.code : FaultSource → Nat
  | .vehicle => 1 | .wayside => 2

/-- The code of a condition's cause, 0 for an edge kind. -/
def causeCode (c : Option Cause) : Nat :=
  match c with
  | some .holding => 1
  | some .ended => 2
  | none => 0

/-- The code of a ring state. -/
def RingState.code : RingState → Nat
  | .starting => 0 | .ring => 1 | .line => 2 | .down => 3

/-- The code of a port mode. -/
def PortMode.code : PortMode → Nat
  | .openMode => 0 | .shut => 1 | .auto => 2 | .autoShut => 3

/-- The code of a node state. -/
def NodeState.code : NodeState → Nat
  | .present => 0 | .silent => 1 | .missing => 2 | .foreign => 3

/-- The code of a discovery shape. -/
def Shape.code : Shape → Nat
  | .undecided => 0 | .closed => 1 | .opened => 2

/-! ## Section record (10.4, R19, R72) -/

/-- The lock reason shown: of the destination in OPENING and TRIPPED, of the section in LOCKED_OUT (10.4). -/
def Section.shownReason (x : Section) : Option LockReason :=
  match x.destination with
  | some d => d.reason?
  | none => x.lockReason

/-- When the running reclose delay expires (R60, R72). -/
def Section.delayExpiry (x : Section) : Option Time := x.delayStart.map (· + BitVec.ofNat 32 (100 * x.settings.delay))

/-- Queue place, unit phase and test number, FFh for the last two outside TESTING (R72, R177). -/
def testView (s : State) (x : Section) : List Byte :=
  match x.state, x.test.bind (fun c => s.testUnit? c.unit) with
  | .testing, some u =>
    [place ((indexWhere (fun n => n == x.number) u.queue).map (· + 1)), u8 u.phase.code, u.testNumber]
  | _, _ => [0, 0xFF, 0xFF]

/-- The last test result and its recorded values (R69, R72). -/
def resultBytes (r : Option TestResult) : List Byte :=
  match r with
  | some t => u8 t.kind.code :: (value16 t.resistance ++ value16 t.vSup ++ value16 t.vSec)
  | none => 0 :: (value16 none ++ value16 none ++ value16 none)

/-- The reclose settings of a section record. -/
def settingsBytes (p : RecloseSettings) : List Byte :=
  u8 p.rMax :: (le16 p.window ++ le16 p.delay ++ yes p.blind :: le16 p.rClear)

/-- A section record of 49 bytes, with its vehicle count as read now (10.4). -/
def sectionRecord (s : State) (x : Section) : List Byte :=
  [u8 x.number, u8 x.state.code, u8 x.feeders.length, place x.feeders[0]?, place x.feeders[1]?,
    place (x.test.map (·.unit)), place (x.test.map (·.channel))] ++
  settingsBytes x.settings ++
  [u8 (destinationCode x.destination), u8 (reasonCode x.shownReason), u8 (originCode x.origin)] ++
  optStamp x.liveSince ++
  u8 x.window.code :: (optStamp x.windowStart ++ u8 x.attempts :: optTime x.delayExpiry) ++
  testView s x ++ [u8 x.testsUsed] ++ resultBytes x.lastTest ++
  [yes x.cancel, yes x.stop, u8 (s.vehicleCount x.number)]

/-! ## Feeder record and protection view (10.4, R24, R48) -/

/-- The eight settings, in the order of SET_PROTECTION. -/
def protectionBytes (p : ProtectionSettings) : List Byte :=
  le16 p.dStart ++ le16 p.dHold ++ le16 p.kMin ++ le16 p.kMax ++ le16 p.lBase ++ le16 p.aVeh ++ le16 p.iOv ++ le16 p.nOv

/-- Sixteen currents, oldest first (R48, R52). -/
def samplesBytes (l : List Int) : List Byte := (padded bufferLength l).flatMap current16

/-- A feeder record and its protection view, 79 bytes (10.4). -/
def feederRecord (f : Feeder) (c : Context) : List Byte :=
  u8 f.number :: u8 f.sect :: (le16 f.node ++ u8 f.breaker.code :: value16 (f.ownRelease.map (·.toNat))) ++
  u8 f.order.code :: (optStamp f.orderStart ++ [u8 f.health.code, yes f.latch]) ++
  protectionBytes c.settings ++
  [u8 c.status.code, yes c.rising] ++
  current16 c.iPrev ++ value16 c.vLast ++
  u8 c.k :: (le16 c.limit ++ u8 c.nRise :: leSigned c.peak) ++
  le16 c.ov ++ [u8 c.sat, u8 c.miss] ++
  samplesBytes c.buffer

/-! ## Trip record (10.4, R57) -/

/-- A trip record of 71 bytes, its read state shown after marking (10.4). -/
def tripRecordBytes (index : Nat) (r : TripRecord) : List Byte :=
  u8 index :: yes r.read :: le32 r.time.t.toNat ++
  [u8 r.sect, u8 r.feeder, u8 r.cause.code, place (r.second.map (·.feeder)),
    u8 ((r.second.map (·.cause.code)).getD 0)] ++
  current16 r.figures.current ++ leSigned r.figures.peak ++ leSigned r.figures.deltaI ++
  u8 r.figures.k :: (le16 r.figures.limit ++ [u8 r.figures.vehicles, place r.intertripped, u8 r.presentCount]) ++
  (padded 6 r.present).flatMap number16 ++ number16 r.suspect ++
  [u8 (outcomeCode r.outcome), u8 (reasonCode (outcomeReason r.outcome))] ++
  samplesBytes r.figures.samples

/-! ## Switch record (10.4, R99) -/

/-- One request of a switch queue, 9 bytes. -/
def requestBytes (r : SwitchRequest) : List Byte :=
  le16 r.vehicle ++ u8 r.leg.code :: u8 r.origin.code :: (le32 r.created.t.toNat ++ [yes r.inPassage])

/-- A switch record, 33 bytes and 9 for each request, with the state of its supply section as it stands (10.4). -/
def switchRecord (s : State) (w : SwitchPoint) : List Byte :=
  u8 w.number :: (le16 w.node ++
    [u8 w.supply, u8 (((s.section? w.supply).map (·.state.code)).getD 0), u8 w.defaultLeg.code, u8 w.tThrow, yes w.hold,
      u8 (legCode w.position), u8 w.state.code, u8 (faultReasonCode w.fault), u8 w.zone, u8 (legCode w.pin),
      u8 (legCode (w.throw.map (·.target)))]) ++
  optTime (w.throw.map (·.start)) ++
  [yes (w.throw.any (·.seen)), u8 w.discrepancy, w.entries, w.exits, w.dewirements, yes w.baseline, u8 w.aspect.code] ++
  optTime w.headSince ++ [yes w.holdLong, u8 w.queue.length] ++
  w.queue.flatMap requestBytes

/-! ## Vehicle record (10.4, R116, R178) -/

/-- One fault entry, 11 bytes. -/
def faultBytes (e : FaultEntry) : List Byte :=
  u8 e.kind.code :: u8 e.severity.code :: u8 e.source.code :: (le32 e.firstSeen.t.toNat ++ le32 e.lastSeen.t.toNat)

/-- A vehicle record, 14 bytes and 11 for each fault entry. -/
def vehicleRecord (index : Nat) (v : Vehicle) : List Byte :=
  u8 index :: (le16 v.number ++ (if v.inSight then 1 else 2) :: place v.sect :: u8 v.lastBeacon ::
    (le32 v.lastSeen.t.toNat ++ le16 v.route ++ [u8 v.pole.code, u8 v.faults.length])) ++
  v.faults.flatMap faultBytes

/-- The records a LIST_VEHICLES reply carries, from an index onward: whole records, at most `room` of them, stopping before the
first that would take the body past 480 bytes (R178). -/
def listRecords : Nat → Nat → Nat → List Vehicle → List (List Byte)
  | 0, _, _, _ => []
  | _, _, _, [] => []
  | room + 1, index, used, v :: rest =>
    if used + (vehicleRecord index v).length ≤ maxBody then
      vehicleRecord index v :: listRecords room (index + 1) (used + (vehicleRecord index v).length) rest
    else []

/-- The contents of a LIST_VEHICLES reply (R117, R178). -/
def listContents (start : Nat) (l : List Vehicle) : List Byte :=
  let records := listRecords 16 start 3 (l.drop (start - 1))
  u8 l.length :: u8 records.length :: records.flatMap id

/-! ## Conditions (10.4, R152) -/

/-- One condition entry, 13 bytes. -/
def entryBytes (e : CondEntry) : List Byte :=
  u8 e.kind.code :: (le16 e.subject ++ le32 e.first.t.toNat ++ le32 e.last.t.toNat ++ [u8 e.count, u8 (causeCode e.cause)])

/-- The contents of a GET_CONDITIONS reply: up to 32 entries from an index onward, the overflow entry last (R152). The
ATTENTION level reads 01h while the line is asserted (log 29). -/
def conditionsContents (start : Nat) (u : ConditionUnit) : List Byte :=
  let shown := ((u.entries ++ u.overflow.toList).drop (start - 1)).take 32
  u8 u.entries.length :: yes u.overflow.isSome :: yes u.attention ::
    (u.enables.map yes ++ u8 shown.length :: shown.flatMap entryBytes)

/-! ## The ring (10.4, R142) -/

/-- A port's part of a GET_RING reply. -/
def portBytes (p : Port) : List Byte :=
  [u8 p.mode.code, yes p.linkUp, yes p.latch, yes p.sentLast, p.number, u8 (p.unitsPassed.getD 255)] ++
  le16 p.sent ++ le16 p.badCheck ++ le16 p.stale ++ le16 p.lost

/-- The ring port's byte; a value the manual does not state while neither port may send. -/
def ringPortByte (r : Ring) : Byte :=
  match r.ringPort with
  | some id => u8 (portCode id)
  | none => Config.noRingPort

/-- The discovery shape's byte; a value the manual does not state outside STARTING. -/
def shapeByte (r : Ring) : Byte :=
  match r.discovery with
  | some d => u8 d.shape.code
  | none => Config.noShape

/-- The number of node table entries in a state. -/
def Ring.countNodes (r : Ring) (st : NodeState) : Nat := (r.nodes.filter (fun n => n.state == st)).length

/-- The contents of a GET_RING reply (R142). -/
def ringContents (r : Ring) : List Byte :=
  [u8 r.state.code, u8 r.darkRun, ringPortByte r] ++ portBytes r.a ++ portBytes r.b ++
  [yes r.recovery, u8 (r.countNodes .present), u8 (r.countNodes .silent), u8 (r.countNodes .missing),
    u8 (r.countNodes .foreign), shapeByte r]

/-- The contents of a GET_NODE reply (R142). -/
def nodeContents (index : Nat) (n : Node) : List Byte :=
  u8 index :: (le16 n.identity ++
    [u8 n.kind.code, u8 ((n.role.map (·.kind.code)).getD 0), place (n.role.map (·.index)), place n.posA, place n.posB,
      u8 n.state.code, u8 n.missRun]) ++
  value16 n.unitStatus ++ optStamp n.statusAt

/-! ## The store (10.4, R168, R174) -/

/-- A page is WRITTEN: page 0 always, a map page while its mark is set (R166). -/
def Store.isWritten (st : Store) (page : Nat) : Bool := page == 0 || st.written.contains page

/-- The contents of a READ_PAGE reply (R168). -/
def pageContents (s : State) (page : Nat) : List Byte :=
  u8 page :: yes (s.store.isWritten page) :: (readBytes s.store.mem (256 * page) 256 ++ le16 s.map.version)

/-- The contents of an APPLY_MAP reply that installed a map (R174). -/
def appliedContents (r : MapRecords) : List Byte :=
  le16 r.version ++
  [u8 r.sections.length, u8 r.feeders.length, u8 r.switches.length, u8 r.beacons.length, u8 r.tests.length] ++
  le16 r.routes.length

/-- The page and offset of a fault found in the run of pages (R173, 10.4). -/
def faultContents (o : Nat) : List Byte := [u8 (o / 256 + 1), u8 o]

end Sys2Proof.Machine
end

