-- ==== Sys2Proof/Machine/Operands.lean ====
section
/-! DEFINITION. The operands of the requests (10.3, R162, R177): checks that several requests share, the verbs of SECTION_ORDER,
SWITCH_ORDER and RING_ORDER, and the request kinds. -/

namespace Sys2Proof.Machine

/-! ## Answers -/

/-- Answers a result code alone and changes nothing. -/
def refuse (code : Byte) : Handler := fun s => (s, some [code])

/-- Answers OK with contents built from the state, and changes nothing. -/
def showing (contents : State → List Byte) : Handler := fun s => (s, some (resultOk :: contents s))

/-- Answers OK with contents built from the state after an effect. -/
def doing (f : State → State) (contents : State → List Byte) : Handler := fun s => (f s, some (resultOk :: contents (f s)))

/-! ## Subjects (R19, R24, R97, R99, R116, R162) -/

/-- A request whose body is empty. -/
def noOperand (h : Handler) (args : List Byte) : Handler :=
  match args with
  | [] => h
  | _ => refuse resultBadLength

/-- A section of the table, named by a number 1..16 (R19). -/
def onSectionNumber (n : Nat) (h : Section → Handler) : Handler := fun s =>
  if within 1 16 n then
    match s.section? n with
    | some x => h x s
    | none => refuse resultNotFound s
  else refuse resultOutOfRange s

/-- A section number alone. -/
def onSection (h : Section → Handler) (args : List Byte) : Handler :=
  match args with
  | [n] => onSectionNumber n.toNat h
  | _ => refuse resultBadLength

/-- A switch point of the table, named by a number 1..24 (R97, R99). -/
def onSwitchNumber (n : Nat) (h : SwitchPoint → Handler) : Handler := fun s =>
  if within 1 24 n then
    match s.switch? n with
    | some w => h w s
    | none => refuse resultNotFound s
  else refuse resultOutOfRange s

/-- A switch number and a leg byte that is not read (R177). -/
def onSwitchAnyLeg (h : SwitchPoint → Handler) (args : List Byte) : Handler :=
  match args with
  | [n, _] => onSwitchNumber n.toNat h
  | _ => refuse resultBadLength

/-- The leg a code names (10.1). -/
def Leg.ofByte (b : Byte) : Option Leg := if b = 1 then some .straight else if b = 2 then some .turn else none

/-- The vehicle numbers (00). -/
def vehicleInRange (n : Nat) : Bool := within 1 9999 n

/-- A vehicle record, named by a number 1..9999; the handler is given its index (R116). -/
def onVehicleNumber (n : Nat) (h : Nat → Vehicle → Handler) : Handler := fun s =>
  match indexWhere (fun v => v.number == n) s.reg.vehicles, s.vehicle? n with
  | some i, some v => h (i + 1) v s
  | _, _ => refuse resultNotFound s

/-- The port a code names (10.1). -/
def portOfByte (b : Byte) : Option PortId := if b = 0 then some .a else if b = 1 then some .b else none

/-- The port mode a code names (10.1). -/
def modeOfByte (b : Byte) : Option PortMode := if b.toNat ≤ 3 then some (modeOf b.toNat) else none

/-! ## Verbs (10.1) -/

/-- Verb ENERGISE of SECTION_ORDER. -/
def verbEnergise : Byte := 1
/-- Verb DE_ENERGISE of SECTION_ORDER. -/
def verbDeEnergise : Byte := 2
/-- Verb ISOLATE of SECTION_ORDER. -/
def verbIsolate : Byte := 3
/-- Verb RESTORE of SECTION_ORDER. -/
def verbRestore : Byte := 4
/-- Verb RELEASE of SECTION_ORDER. -/
def verbRelease : Byte := 5
/-- Verb PIN of SWITCH_ORDER. -/
def verbPin : Byte := 1
/-- Verb UNPIN of SWITCH_ORDER. -/
def verbUnpin : Byte := 2
/-- Verb RESTORE of SWITCH_ORDER. -/
def verbSwitchRestore : Byte := 3
/-- Verb HOLD_ON of SWITCH_ORDER. -/
def verbHoldOn : Byte := 4
/-- Verb HOLD_OFF of SWITCH_ORDER. -/
def verbHoldOff : Byte := 5
/-- Verb CLEAR_QUEUE of SWITCH_ORDER. -/
def verbClearQueue : Byte := 6
/-- Verb SET_MODE of RING_ORDER. -/
def verbSetMode : Byte := 1
/-- Verb REOPEN of RING_ORDER. -/
def verbReopen : Byte := 2
/-- Verb RESTART of RING_ORDER. -/
def verbRestart : Byte := 3

/-! ## Request kinds (10.3) -/

/-- IDENTIFY. -/
def kindIdentify : Byte := 0x01
/-- PING. -/
def kindPing : Byte := 0x02
/-- GET_LINK_STATUS. -/
def kindGetLinkStatus : Byte := 0x03
/-- GET_SECTION. -/
def kindGetSection : Byte := 0x10
/-- SECTION_ORDER. -/
def kindSectionOrder : Byte := 0x11
/-- GET_FEEDER. -/
def kindGetFeeder : Byte := 0x12
/-- GET_TRIP. -/
def kindGetTrip : Byte := 0x13
/-- SET_PROTECTION. -/
def kindSetProtection : Byte := 0x18
/-- GET_SWITCH. -/
def kindGetSwitch : Byte := 0x20
/-- SWITCH_ORDER. -/
def kindSwitchOrder : Byte := 0x21
/-- ADD_REQUEST. -/
def kindAddRequest : Byte := 0x22
/-- GET_VEHICLE. -/
def kindGetVehicle : Byte := 0x28
/-- LIST_VEHICLES. -/
def kindListVehicles : Byte := 0x29
/-- CLEAR_VEHICLE_FAULT. -/
def kindClearVehicleFault : Byte := 0x2A
/-- FORGET_VEHICLE. -/
def kindForgetVehicle : Byte := 0x2B
/-- GET_CONDITIONS. -/
def kindGetConditions : Byte := 0x30
/-- CLEAR_CONDITION. -/
def kindClearCondition : Byte := 0x31
/-- SET_ENABLES. -/
def kindSetEnables : Byte := 0x32
/-- GET_RING. -/
def kindGetRing : Byte := 0x38
/-- GET_NODE. -/
def kindGetNode : Byte := 0x39
/-- RING_ORDER. -/
def kindRingOrder : Byte := 0x3A
/-- READ_PAGE. -/
def kindReadPage : Byte := 0x40
/-- WRITE_PAGE. -/
def kindWritePage : Byte := 0x41
/-- ERASE_MAP. -/
def kindEraseMap : Byte := 0x42
/-- APPLY_MAP. -/
def kindApplyMap : Byte := 0x43

end Sys2Proof.Machine
end

