-- ==== Sys2Proof/Machine/ConditionRequests.lean ====
section
/-! DEFINITION. The requests of the Condition Unit (R147, R148, R149, R152). -/

namespace Sys2Proof.Machine

/-- GET_CONDITIONS (R152). -/
def getConditions (args : List Byte) : Handler :=
  match args with
  | [b] => if within 1 49 b.toNat then showing (fun s => conditionsContents b.toNat s.cond) else refuse resultOutOfRange
  | _ => refuse resultBadLength

/-- The contents of a CLEAR_CONDITION reply (R147). -/
def clearedContents (s : State) : List Byte := [u8 s.cond.entries.length, yes s.cond.overflow.isSome]

/-- CLEAR_CONDITION ALL (R148); its subject must be 0 (R177). -/
def clearAllConditions (args : List Byte) : Handler :=
  match args with
  | [lo, hi] =>
    if num16 lo hi = 0 then doing clearAll (fun t => [u8 t.cond.entries.length]) else refuse resultOutOfRange
  | _ => refuse resultBadLength

/-- CLEAR_CONDITION of a kind and subject (R147). -/
def clearOne (k : CondKind) (subject : Nat) : Handler := fun s =>
  if k = .conditionOverflow then
    match s.cond.overflow with
    | some e => if subject = 0 then doing (clearOverflow e) clearedContents s else refuse resultNotFound s
    | none => refuse resultNotFound s
  else
    match s.cond.entries.find? (·.isOf k subject) with
    | some e => doing (clearEntry e) clearedContents s
    | none => refuse resultNotFound s

/-- CLEAR_CONDITION by its kind byte; FFh is ALL (R147, R177). -/
def clearCondition (args : List Byte) : Handler :=
  match args with
  | [k, lo, hi] =>
    if k = 0xFF then clearAllConditions [lo, hi]
    else
      match CondKind.ofCode k.toNat with
      | some kind => if num16 lo hi ≤ 9999 then clearOne kind (num16 lo hi) else refuse resultOutOfRange
      | none => refuse resultOutOfRange
  | _ => refuse resultBadLength

/-- SET_ENABLES (R149). -/
def setEnables (args : List Byte) : Handler :=
  if args.length = 24 then
    if args.all (fun b => b == 0 || b == 1) then
      doing (fun s => s.modCond fun u => { u with enables := args.map (· == 1) }.review) (fun s => s.cond.enables.map yes)
    else refuse resultOutOfRange
  else refuse resultBadLength

/-! ## The commands -/

/-- GET_CONDITIONS. -/
def execGetConditions (tag : Byte) (args : List Byte) (s : State) : Host.Outcome State Fault Refusal :=
  .next (serve kindGetConditions tag (getConditions args) s)

/-- CLEAR_CONDITION. -/
def execClearCondition (tag : Byte) (args : List Byte) (s : State) : Host.Outcome State Fault Refusal :=
  .next (serve kindClearCondition tag (clearCondition args) s)

/-- CLEAR_CONDITION ALL. -/
def execClearConditionAll (tag : Byte) (args : List Byte) (s : State) : Host.Outcome State Fault Refusal :=
  .next (serve kindClearCondition tag (clearAllConditions args) s)

/-- SET_ENABLES. -/
def execSetEnables (tag : Byte) (args : List Byte) (s : State) : Host.Outcome State Fault Refusal :=
  .next (serve kindSetEnables tag (setEnables args) s)

end Sys2Proof.Machine
end

