-- ==== Sys2Proof/Machine/RingRequests.lean ====
section
/-! DEFINITION. The requests of the Ring Controller (R142, R143). -/

namespace Sys2Proof.Machine

/-- GET_RING (R142). -/
def getRing (args : List Byte) : Handler := noOperand (showing fun s => ringContents s.ring) args

/-- GET_NODE (R142). -/
def getNode (args : List Byte) : Handler := fun s =>
  match args with
  | [b] =>
    if within 1 64 b.toNat then
      match s.ring.nodes[b.toNat - 1]? with
      | some n => showing (fun _ => nodeContents b.toNat n) s
      | none => refuse resultNotFound s
    else refuse resultOutOfRange s
  | _ => refuse resultBadLength s

/-- A port takes a mode; changing to AUTO_SHUT sets the latch by the link (R143). -/
def Port.setMode (mode : PortMode) (p : Port) : Port :=
  if mode = .autoShut ∧ p.mode ≠ .autoShut then { p with mode := mode, latch := !p.linkUp } else { p with mode := mode }

/-- RING_ORDER SET_MODE (R143). -/
def setPortMode (args : List Byte) : Handler :=
  match args with
  | [p, m] =>
    match portOfByte p, modeOfByte m with
    | some id, some mode => doing (fun s => s.modRing (·.modPort id (·.setMode mode))) (fun _ => [])
    | _, _ => refuse resultOutOfRange
  | _ => refuse resultBadLength

/-- RING_ORDER REOPEN: the mode byte is not read (R143, R177). -/
def reopenPort (args : List Byte) : Handler :=
  match args with
  | [p, _] =>
    match portOfByte p with
    | some id => doing (fun s => s.modRing (·.modPort id fun x => { x with latch := false })) (fun _ => [])
    | none => refuse resultOutOfRange
  | _ => refuse resultBadLength

/-- RING_ORDER RESTART: the port and mode bytes are not read (R143, R177). -/
def restartRing (args : List Byte) : Handler :=
  match args with
  | [_, _] => doing (fun s => startDiscovery (withdrawTelegrams s)) (fun _ => [])
  | _ => refuse resultBadLength

/-- RING_ORDER by its verb byte (R143). -/
def ringOrder (body : List Byte) : Handler :=
  match body with
  | [v, p, m] =>
    if v = verbSetMode then setPortMode [p, m]
    else if v = verbReopen then reopenPort [p, m]
    else if v = verbRestart then restartRing [p, m]
    else refuse resultOutOfRange
  | _ => refuse resultBadLength

/-! ## The commands -/

/-- GET_RING. -/
def execGetRing (tag : Byte) (args : List Byte) (s : State) : Host.Outcome State Fault Refusal :=
  .next (serve kindGetRing tag (getRing args) s)

/-- GET_NODE. -/
def execGetNode (tag : Byte) (args : List Byte) (s : State) : Host.Outcome State Fault Refusal :=
  .next (serve kindGetNode tag (getNode args) s)

/-- SET_MODE. -/
def execSetMode (tag : Byte) (args : List Byte) (s : State) : Host.Outcome State Fault Refusal :=
  .next (serve kindRingOrder tag (setPortMode args) s)

/-- REOPEN. -/
def execReopen (tag : Byte) (args : List Byte) (s : State) : Host.Outcome State Fault Refusal :=
  .next (serve kindRingOrder tag (reopenPort args) s)

/-- RESTART. -/
def execRestart (tag : Byte) (args : List Byte) (s : State) : Host.Outcome State Fault Refusal :=
  .next (serve kindRingOrder tag (restartRing args) s)

end Sys2Proof.Machine
end

