-- ==== Sys2Proof/Machine/SectionRequests.lean ====
section
/-! DEFINITION. The requests of the Section Controller and the Protection Unit: GET_SECTION, SECTION_ORDER, GET_FEEDER, GET_TRIP
and SET_PROTECTION (R19 to R24, R46, R48, R57). -/

namespace Sys2Proof.Machine

/-- The record of a section as it stands, empty for a number without a record. -/
def State.sectionBytes (s : State) (n : Nat) : List Byte :=
  match s.section? n with
  | some x => sectionRecord s x
  | none => []

/-- Answers a SECTION_ORDER refusal that carries the section record (R19, R162). -/
def refuseSection (code : Byte) (n : Nat) : Handler := fun s => (s, some (code :: s.sectionBytes n))

/-- Answers a SECTION_ORDER that was carried out: OK and the record after the verb (R19). -/
def orderSection (n : Nat) (f : State → State) : Handler := doing f (fun t => t.sectionBytes n)

/-- GET_SECTION (R19, R72). -/
def getSection (args : List Byte) : Handler := onSection (fun x => showing fun s => s.sectionBytes x.number) args

/-- ENERGISE by state (R20); BUSY carries its code alone (R162, log 25). -/
def energiseSection (x : Section) : Handler := fun s =>
  if s.sec.emergency then refuseSection resultEmergency x.number s
  else
    match x.state with
    | .dead =>
      if s.nodesPresent x then orderSection x.number (enterClosing x.number .energise) s
      else refuseSection resultRefusedState x.number s
    | .closing | .live => orderSection x.number id s
    | .unsettled => refuse resultBusy s
    | .isolated | .opening | .tripped | .recloseWait | .testing | .lockedOut =>
      refuseSection resultRefusedState x.number s

/-- SECTION_ORDER ENERGISE. -/
def energise (args : List Byte) : Handler := onSection energiseSection args

/-- DE_ENERGISE by state (R21). -/
def deEnergiseSection (x : Section) : Handler :=
  if x.state = .unsettled then refuse resultBusy else orderSection x.number (makeDead x)

/-- SECTION_ORDER DE_ENERGISE. -/
def deEnergise (args : List Byte) : Handler := onSection deEnergiseSection args

/-- A feeder's OPEN order against a stray close ends at ISOLATE (R22). -/
def Feeder.endOpen (f : Feeder) : Feeder := if f.order = .opens then f.endOrder else f

/-- A section record without its window, attempts and tests used (R22, R23). -/
def Section.cleared (x : Section) : Section := { x.closeWindow with testsUsed := 0 }

/-- The entry into ISOLATED (R22). -/
def isolateState (x : Section) (s : State) : State :=
  changeState x.number .isolated (·.cleared) (forEach x.feeders (fun f t => t.modFeeder f (·.endOpen)) s)

/-- ISOLATE by state (R22). -/
def isolateSection (x : Section) : Handler :=
  if x.state = .dead ∨ x.state = .lockedOut then orderSection x.number (isolateState x)
  else refuseSection resultRefusedState x.number

/-- SECTION_ORDER ISOLATE. -/
def isolate (args : List Byte) : Handler := onSection isolateSection args

/-- RESTORE by state (R23). -/
def restoreSection (x : Section) : Handler :=
  if x.state = .isolated then orderSection x.number (changeState x.number .dead id)
  else refuseSection resultRefusedState x.number

/-- SECTION_ORDER RESTORE. -/
def restore (args : List Byte) : Handler := onSection restoreSection args

/-- RELEASE by state (R23). -/
def releaseSection (x : Section) : Handler :=
  if x.state = .lockedOut then orderSection x.number (changeState x.number .dead (·.cleared))
  else refuseSection resultRefusedState x.number

/-- SECTION_ORDER RELEASE. -/
def release (args : List Byte) : Handler := onSection releaseSection args

/-- SECTION_ORDER by its verb byte; a verb that names none of the five is OUT_OF_RANGE (R19). -/
def sectionOrder (body : List Byte) : Handler :=
  match body with
  | [n, v] =>
    if v = verbEnergise then energise [n]
    else if v = verbDeEnergise then deEnergise [n]
    else if v = verbIsolate then isolate [n]
    else if v = verbRestore then restore [n]
    else if v = verbRelease then release [n]
    else refuse resultOutOfRange
  | _ => refuse resultBadLength

/-- The GET_FEEDER contents of a feeder (R24, R48). -/
def State.feederBytes (s : State) (n : Nat) : List Byte :=
  match s.feeder? n, s.context? n with
  | some f, some c => feederRecord f c
  | _, _ => []

/-- GET_FEEDER (R24, R48). -/
def getFeeder (args : List Byte) : Handler := fun s =>
  match args with
  | [n] =>
    if within 1 24 n.toNat then
      if (s.feeder? n.toNat).isSome then showing (fun t => t.feederBytes n.toNat) s else refuse resultNotFound s
    else refuse resultOutOfRange s
  | _ => refuse resultBadLength s

/-- The index, from 0, of the trip record a which byte names (R57). -/
def tripIndex (which : Byte) (l : List TripRecord) : Option Nat :=
  if which = 0xFF then indexWhere (fun r => !r.read) l
  else if which.toNat ≤ l.length then some (which.toNat - 1)
  else none

/-- Marks the record at an index READ. -/
def markRead : Nat → List TripRecord → List TripRecord
  | _, [] => []
  | 0, r :: rest => { r with read := true } :: rest
  | n + 1, r :: rest => r :: markRead n rest

/-- The record at an index as the reply shows it. -/
def State.tripBytes (s : State) (i : Nat) : List Byte :=
  match s.sec.trips[i]? with
  | some r => tripRecordBytes (i + 1) r
  | none => []

/-- GET_TRIP (R57). -/
def getTrip (args : List Byte) : Handler := fun s =>
  match args with
  | [w] =>
    if w = 0xFF ∨ within 1 8 w.toNat = true then
      match tripIndex w s.sec.trips with
      | some i => doing (fun t => t.modTrips (markRead i)) (fun t => t.tripBytes i) s
      | none => refuse resultNotFound s
    else refuse resultOutOfRange s
  | _ => refuse resultBadLength s

/-- The two-byte values of a body. -/
def bodyWord (data : List Byte) (o : Nat) : Nat := num16 (data.getD o 0) (data.getD (o + 1) 0)

/-- The settings of a feeder as they stand (R46). -/
def State.settingsOf (s : State) (n : Nat) : List Byte :=
  match s.context? n with
  | some c => protectionBytes c.settings
  | none => []

/-- SET_PROTECTION with its feeder and settings (R46). -/
def setSettings (n : Nat) (p : ProtectionSettings) : Handler := fun s =>
  if within 1 24 n then
    if (s.feeder? n).isSome then
      if p.inRange then
        doing (fun t => t.modContext n fun c => { c with settings := p }) (fun t => t.settingsOf n) s
      else refuse resultOutOfRange s
    else refuse resultNotFound s
  else refuse resultOutOfRange s

/-- SET_PROTECTION (R46). -/
def setProtection (args : List Byte) : Handler :=
  match args with
  | n :: data => if data.length = 16 then setSettings n.toNat (readSettings (bodyWord data) 0) else refuse resultBadLength
  | [] => refuse resultBadLength

/-! ## The commands -/

/-- GET_SECTION. -/
def execGetSection (tag : Byte) (args : List Byte) (s : State) : Host.Outcome State Fault Refusal :=
  .next (serve kindGetSection tag (getSection args) s)

/-- ENERGISE. -/
def execEnergise (tag : Byte) (args : List Byte) (s : State) : Host.Outcome State Fault Refusal :=
  .next (serve kindSectionOrder tag (energise args) s)

/-- DE_ENERGISE. -/
def execDeEnergise (tag : Byte) (args : List Byte) (s : State) : Host.Outcome State Fault Refusal :=
  .next (serve kindSectionOrder tag (deEnergise args) s)

/-- ISOLATE. -/
def execIsolate (tag : Byte) (args : List Byte) (s : State) : Host.Outcome State Fault Refusal :=
  .next (serve kindSectionOrder tag (isolate args) s)

/-- RESTORE. -/
def execRestore (tag : Byte) (args : List Byte) (s : State) : Host.Outcome State Fault Refusal :=
  .next (serve kindSectionOrder tag (restore args) s)

/-- RELEASE. -/
def execRelease (tag : Byte) (args : List Byte) (s : State) : Host.Outcome State Fault Refusal :=
  .next (serve kindSectionOrder tag (release args) s)

/-- GET_FEEDER. -/
def execGetFeeder (tag : Byte) (args : List Byte) (s : State) : Host.Outcome State Fault Refusal :=
  .next (serve kindGetFeeder tag (getFeeder args) s)

/-- GET_TRIP. -/
def execGetTrip (tag : Byte) (args : List Byte) (s : State) : Host.Outcome State Fault Refusal :=
  .next (serve kindGetTrip tag (getTrip args) s)

/-- SET_PROTECTION. -/
def execSetProtection (tag : Byte) (args : List Byte) (s : State) : Host.Outcome State Fault Refusal :=
  .next (serve kindSetProtection tag (setProtection args) s)

end Sys2Proof.Machine
end

