-- ==== Sys2Proof/Machine/StoreRequests.lean ====
section
/-! DEFINITION. The requests of the Map Store and the ends of its operations (R168 to R171, R174, R175). -/

namespace Sys2Proof.Machine

/-- A page write takes 10 ms (R169). -/
def pageWriteMs : Nat := 10

/-- A map erase takes 1.5 s (R170). -/
def mapEraseMs : Nat := 1500

/-- READ_PAGE (R168). -/
def readPage (args : List Byte) : Handler :=
  match args with
  | [p] => if p.toNat ≤ 63 then showing (fun s => pageContents s p.toNat) else refuse resultOutOfRange
  | _ => refuse resultBadLength

/-- A page write starts: the mark is set and the store is busy (R169). -/
def startWrite (page : Nat) (data : List Byte) (s : State) : State :=
  s.modStore fun st => { st with written := st.written ++ [page], busy := some (.write page data s.time.now) }

/-- WRITE_PAGE (R169): no reply yet when the write starts. -/
def writePage (args : List Byte) : Handler := fun s =>
  match args with
  | p :: data =>
    if data.length = 256 then
      if p.toNat ≤ 63 then
        if s.store.isWritten p.toNat then refuse resultPageWritten s else (startWrite p.toNat data s, none)
      else refuse resultOutOfRange s
    else refuse resultBadLength s
  | [] => refuse resultBadLength s

/-- Every section is DEAD, ISOLATED, LOCKED_OUT or UNSETTLED (R170). -/
def State.mayErase (s : State) : Bool :=
  s.sec.sections.all fun x => x.state == .dead || x.state == .isolated || x.state == .lockedOut || x.state == .unsettled

/-- ERASE_MAP (R170): no reply yet when the erase starts. -/
def startErase (args : List Byte) : Handler :=
  noOperand (fun s =>
    if s.mayErase then (s.modStore fun st => { st with busy := some (.erase s.time.now) }, none)
    else refuse resultRefusedState s) args

/-- Every section is DEAD, ISOLATED or LOCKED_OUT (R174). -/
def State.mayApply (s : State) : Bool :=
  s.sec.sections.all fun x => x.state == .dead || x.state == .isolated || x.state == .lockedOut

/-- APPLY_MAP (R174, R175). -/
def applyPages (args : List Byte) : Handler :=
  noOperand (fun s =>
    match mapFault s.store with
    | some o => (s, some (resultMapInvalid :: faultContents o))
    | none =>
      if s.mayApply then
        (applyMap (readMap s.store.mem) s, some (resultOk :: appliedContents (readMap s.store.mem)))
      else refuse resultRefusedState s) args

/-- The reply of a store request whose operation has finished; the request held the head of the queue until now (R161). -/
def answerStore (contents : List Byte) (s : State) : State :=
  match s.link.serving with
  | some (.store kind tag) => s.modLink (·.answer kind tag (resultOk :: contents))
  | _ => s

/-! ## The commands -/

/-- READ_PAGE. -/
def execReadPage (tag : Byte) (args : List Byte) (s : State) : Host.Outcome State Fault Refusal :=
  .next (serve kindReadPage tag (readPage args) s)

/-- WRITE_PAGE. -/
def execWritePage (tag : Byte) (args : List Byte) (s : State) : Host.Outcome State Fault Refusal :=
  .next (serve kindWritePage tag (writePage args) s)

/-- PAGE_WRITE_FINISHED: 10 ms after its start the write ends (R169, R171). -/
def execPageWriteFinished (s : State) : Host.Outcome State Fault Refusal :=
  match s.store.busy with
  | some (.write page data start) =>
    if timeUp s.time.now start pageWriteMs then
      .next (answerStore [u8 page]
        (s.modStore fun st => { st with mem := writeBytes st.mem (256 * page) data, busy := none }))
    else .next s
  | _ => .next s

/-- ERASE_MAP. -/
def execEraseMap (tag : Byte) (args : List Byte) (s : State) : Host.Outcome State Fault Refusal :=
  .next (serve kindEraseMap tag (startErase args) s)

/-- MAP_ERASE_FINISHED: 1.5 s after its start the erase ends, the written marks cleared; pages that a cut operation left can be
used again (R166, R170, R171). -/
def execMapEraseFinished (s : State) : Host.Outcome State Fault Refusal :=
  match s.store.busy with
  | some (.erase start) =>
    if timeUp s.time.now start mapEraseMs then
      .next (answerStore [] (s.modStore fun st => { st with mem := erasePages st.mem, written := [], busy := none, cutShort := none }))
    else .next s
  | _ => .next s

/-- APPLY_MAP. -/
def execApplyMap (tag : Byte) (args : List Byte) (s : State) : Host.Outcome State Fault Refusal :=
  .next (serve kindApplyMap tag (applyPages args) s)

end Sys2Proof.Machine
end

