-- ==== Sys2Proof/Machine/SwitchRequests.lean ====
section
/-! DEFINITION. The requests of the Switch Point Controller: GET_SWITCH, SWITCH_ORDER and ADD_REQUEST (R79, R97, R99). -/

namespace Sys2Proof.Machine

/-- The record of a switch point as it stands, empty for a number without a record. -/
def State.switchBytes (s : State) (n : Nat) : List Byte :=
  match s.switch? n with
  | some w => switchRecord s w
  | none => []

/-- Answers a switch request that was carried out: OK and the record after it (R97). -/
def orderSwitch (n : Nat) (f : State → State) : Handler := doing f (fun t => t.switchBytes n)

/-- GET_SWITCH (R99). -/
def getSwitch (args : List Byte) : Handler :=
  match args with
  | [n] => onSwitchNumber n.toNat (fun w => showing fun s => s.switchBytes w.number)
  | _ => refuse resultBadLength

/-- The pin becomes a leg, and the throw decision is made (R97). -/
def pinState (n : Nat) (leg : Leg) (s : State) : State :=
  updateAspect n (throwDecision n (s.modSwitch n fun w => { w with pin := some leg }))

/-- SWITCH_ORDER PIN: the leg is checked (R97, R177). -/
def pinSwitch (args : List Byte) : Handler :=
  match args with
  | [n, l] =>
    match Leg.ofByte l with
    | some leg => onSwitchNumber n.toNat (fun w => orderSwitch w.number (pinState w.number leg))
    | none => refuse resultOutOfRange
  | _ => refuse resultBadLength

/-- The pin becomes absent, and the throw decision is made (R97). -/
def unpinState (n : Nat) (s : State) : State :=
  updateAspect n (throwDecision n (s.modSwitch n fun w => { w with pin := none }))

/-- SWITCH_ORDER UNPIN. -/
def unpinSwitch (args : List Byte) : Handler :=
  onSwitchAnyLeg (fun w => orderSwitch w.number (unpinState w.number)) args

/-- FAULT becomes UNCERTAIN, the cause of SWITCH_FAULT ends, the throw decision is made (R97). -/
def restoreSwitchState (n : Nat) (s : State) : State :=
  updateAspect n (throwDecision n (endCause .switchFault n
    (s.modSwitch n fun w => { w with state := .uncertain, fault := none })))

/-- SWITCH_ORDER RESTORE: REFUSED_STATE with the record outside FAULT (R97). -/
def restoreSwitch (args : List Byte) : Handler :=
  onSwitchAnyLeg (fun w =>
    if w.state = .fault then orderSwitch w.number (restoreSwitchState w.number)
    else fun s => (s, some (resultRefusedState :: s.switchBytes w.number))) args

/-- The hold setting of the working table, and the aspect brought up to date (R97). -/
def holdState (n : Nat) (on : Bool) (s : State) : State := updateAspect n (s.modSwitch n fun w => { w with hold := on })

/-- SWITCH_ORDER HOLD_ON. -/
def holdOnSwitch (args : List Byte) : Handler :=
  onSwitchAnyLeg (fun w => orderSwitch w.number (holdState w.number true)) args

/-- SWITCH_ORDER HOLD_OFF. -/
def holdOffSwitch (args : List Byte) : Handler :=
  onSwitchAnyLeg (fun w => orderSwitch w.number (holdState w.number false)) args

/-- Every request not in passage is removed, the head becomes absent, the throw decision is made (R97). -/
def clearQueueState (n : Nat) (s : State) : State :=
  updateAspect n (throwDecision n (changeQueue n (fun q => q.filter (·.inPassage)) s))

/-- SWITCH_ORDER CLEAR_QUEUE. -/
def clearQueueSwitch (args : List Byte) : Handler :=
  onSwitchAnyLeg (fun w => orderSwitch w.number (clearQueueState w.number)) args

/-- SWITCH_ORDER by its verb byte; a verb that names none of the six is OUT_OF_RANGE (R97). -/
def switchOrder (body : List Byte) : Handler :=
  match body with
  | [n, v, l] =>
    if v = verbPin then pinSwitch [n, l]
    else if v = verbUnpin then unpinSwitch [n, l]
    else if v = verbSwitchRestore then restoreSwitch [n, l]
    else if v = verbHoldOn then holdOnSwitch [n, l]
    else if v = verbHoldOff then holdOffSwitch [n, l]
    else if v = verbClearQueue then clearQueueSwitch [n, l]
    else refuse resultOutOfRange
  | _ => refuse resultBadLength

/-- A station request for a vehicle at a switch point (R79, R80). -/
def stationRequest (vehicle : Nat) (leg : Leg) (w : SwitchPoint) : Handler := fun s =>
  if (s.vehicle? vehicle).any (·.inSight) then
    if w.refuses vehicle then (addSwitchRequest w.number vehicle leg .station s, some [resultBusy])
    else orderSwitch w.number (addSwitchRequest w.number vehicle leg .station) s
  else refuse resultNotFound s

/-- ADD_REQUEST (R79). -/
def addStationRequest (args : List Byte) : Handler :=
  match args with
  | [n, v0, v1, l] =>
    match Leg.ofByte l with
    | some leg =>
      if vehicleInRange (num16 v0 v1) then onSwitchNumber n.toNat (stationRequest (num16 v0 v1) leg)
      else refuse resultOutOfRange
    | none => refuse resultOutOfRange
  | _ => refuse resultBadLength

/-! ## The commands -/

/-- GET_SWITCH. -/
def execGetSwitch (tag : Byte) (args : List Byte) (s : State) : Host.Outcome State Fault Refusal :=
  .next (serve kindGetSwitch tag (getSwitch args) s)

/-- PIN. -/
def execPin (tag : Byte) (args : List Byte) (s : State) : Host.Outcome State Fault Refusal :=
  .next (serve kindSwitchOrder tag (pinSwitch args) s)

/-- UNPIN. -/
def execUnpin (tag : Byte) (args : List Byte) (s : State) : Host.Outcome State Fault Refusal :=
  .next (serve kindSwitchOrder tag (unpinSwitch args) s)

/-- SWITCH_RESTORE. -/
def execSwitchRestore (tag : Byte) (args : List Byte) (s : State) : Host.Outcome State Fault Refusal :=
  .next (serve kindSwitchOrder tag (restoreSwitch args) s)

/-- HOLD_ON. -/
def execHoldOn (tag : Byte) (args : List Byte) (s : State) : Host.Outcome State Fault Refusal :=
  .next (serve kindSwitchOrder tag (holdOnSwitch args) s)

/-- HOLD_OFF. -/
def execHoldOff (tag : Byte) (args : List Byte) (s : State) : Host.Outcome State Fault Refusal :=
  .next (serve kindSwitchOrder tag (holdOffSwitch args) s)

/-- CLEAR_QUEUE. -/
def execClearQueue (tag : Byte) (args : List Byte) (s : State) : Host.Outcome State Fault Refusal :=
  .next (serve kindSwitchOrder tag (clearQueueSwitch args) s)

/-- ADD_REQUEST. -/
def execAddRequest (tag : Byte) (args : List Byte) (s : State) : Host.Outcome State Fault Refusal :=
  .next (serve kindAddRequest tag (addStationRequest args) s)

end Sys2Proof.Machine
end

