-- ==== Sys2Proof/Machine/VehicleRequests.lean ====
section
/-! DEFINITION. The requests of the Vehicle Register (R115 to R119). -/

namespace Sys2Proof.Machine

/-- A vehicle number in two bytes. -/
def onVehicle (h : Nat → Vehicle → Handler) (args : List Byte) : Handler :=
  match args with
  | [v0, v1] => if vehicleInRange (num16 v0 v1) then onVehicleNumber (num16 v0 v1) h else refuse resultOutOfRange
  | _ => refuse resultBadLength

/-- The record of a vehicle at its index, as it stands. -/
def State.vehicleBytes (s : State) (index n : Nat) : List Byte :=
  match s.vehicle? n with
  | some v => vehicleRecord index v
  | none => []

/-- GET_VEHICLE (R116). -/
def getVehicle (args : List Byte) : Handler := onVehicle (fun i v => showing fun s => s.vehicleBytes i v.number) args

/-- LIST_VEHICLES (R117, R178). -/
def listVehicles (args : List Byte) : Handler :=
  match args with
  | [b] => if within 1 64 b.toNat then showing (fun s => listContents b.toNat s.reg.vehicles) else refuse resultOutOfRange
  | _ => refuse resultBadLength

/-- An entry of a kind is removed from a record, whatever its source and severity (R118). -/
def dropFault (n : Nat) (k : FaultKind) (s : State) : State :=
  s.modVehicle n fun v => { v with faults := v.faults.filter (fun e => e.kind != k) }

/-- CLEAR_VEHICLE_FAULT of a kind at a record (R118). -/
def clearFaultOf (k : FaultKind) (index : Nat) (v : Vehicle) : Handler :=
  if v.faults.any (fun e => e.kind == k) then doing (dropFault v.number k) (fun t => t.vehicleBytes index v.number)
  else refuse resultNotFound

/-- CLEAR_VEHICLE_FAULT (R118). -/
def clearFault (args : List Byte) : Handler :=
  match args with
  | [v0, v1, k] =>
    match FaultKind.ofCode k.toNat with
    | some kind =>
      if vehicleInRange (num16 v0 v1) then onVehicleNumber (num16 v0 v1) (clearFaultOf kind) else refuse resultOutOfRange
    | none => refuse resultOutOfRange
  | _ => refuse resultBadLength

/-- FORGET_VEHICLE (R119). -/
def forget (args : List Byte) : Handler := onVehicle (fun _ v => doing (removeVehicle v.number) (fun _ => [])) args

/-! ## The commands -/

/-- GET_VEHICLE. -/
def execGetVehicle (tag : Byte) (args : List Byte) (s : State) : Host.Outcome State Fault Refusal :=
  .next (serve kindGetVehicle tag (getVehicle args) s)

/-- LIST_VEHICLES. -/
def execListVehicles (tag : Byte) (args : List Byte) (s : State) : Host.Outcome State Fault Refusal :=
  .next (serve kindListVehicles tag (listVehicles args) s)

/-- CLEAR_VEHICLE_FAULT. -/
def execClearVehicleFault (tag : Byte) (args : List Byte) (s : State) : Host.Outcome State Fault Refusal :=
  .next (serve kindClearVehicleFault tag (clearFault args) s)

/-- FORGET_VEHICLE. -/
def execForgetVehicle (tag : Byte) (args : List Byte) (s : State) : Host.Outcome State Fault Refusal :=
  .next (serve kindForgetVehicle tag (forget args) s)

end Sys2Proof.Machine
end

