-- ==== Sys2Proof/Machine/LinkCommands.lean ====
section
/-! DEFINITION. The Control Link Interface's commands (08): its own requests, the start of a request, the slots, and what arrives
on the receive line. -/

namespace Sys2Proof.Machine

/-- IDENTIFY (R165). -/
def identify (args : List Byte) : Handler := noOperand (showing fun s => readBytes s.store.mem 0 256) args

/-- PING (R165). -/
def ping (args : List Byte) : Handler := noOperand (showing fun s => le32 s.time.now.toNat) args

/-- The contents of a GET_LINK_STATUS reply (10.4). -/
def statusContents (l : Link) : List Byte := yes l.fast :: (le16 l.discards ++ le16 l.breaks)

/-- GET_LINK_STATUS: the counters as they stand, then both set to 0 (R164). -/
def getLinkStatus (args : List Byte) : Handler :=
  noOperand (fun s =>
    (s.modLink fun l => { l with discards := 0, breaks := 0 }, some (resultOk :: statusContents s.link))) args

/-- The owner of a request kind (R162, 10.3); none for a kind that is no request kind. -/
def handlerOf (kind : Byte) : Option (List Byte → Handler) :=
  if kind = kindIdentify then some identify
  else if kind = kindPing then some ping
  else if kind = kindGetLinkStatus then some getLinkStatus
  else if kind = kindGetSection then some getSection
  else if kind = kindSectionOrder then some sectionOrder
  else if kind = kindGetFeeder then some getFeeder
  else if kind = kindGetTrip then some getTrip
  else if kind = kindSetProtection then some setProtection
  else if kind = kindGetSwitch then some getSwitch
  else if kind = kindSwitchOrder then some switchOrder
  else if kind = kindAddRequest then some addStationRequest
  else if kind = kindGetVehicle then some getVehicle
  else if kind = kindListVehicles then some listVehicles
  else if kind = kindClearVehicleFault then some clearFault
  else if kind = kindForgetVehicle then some forget
  else if kind = kindGetConditions then some getConditions
  else if kind = kindClearCondition then some clearCondition
  else if kind = kindSetEnables then some setEnables
  else if kind = kindGetRing then some getRing
  else if kind = kindGetNode then some getNode
  else if kind = kindRingOrder then some ringOrder
  else if kind = kindReadPage then some readPage
  else if kind = kindWritePage then some writePage
  else if kind = kindEraseMap then some startErase
  else if kind = kindApplyMap then some applyPages
  else none

/-- A request as its kind has it carried out; UNKNOWN_KIND for a kind that is no request kind (R162). -/
def requestHandler (r : Request) : Handler :=
  match handlerOf r.kind with
  | some h => h r.body
  | none => refuse resultUnknownKind

/-! ## The commands -/

/-- IDENTIFY. -/
def execIdentify (tag : Byte) (args : List Byte) (s : State) : Host.Outcome State Fault Refusal :=
  .next (serve kindIdentify tag (identify args) s)

/-- PING. -/
def execPing (tag : Byte) (args : List Byte) (s : State) : Host.Outcome State Fault Refusal :=
  .next (serve kindPing tag (ping args) s)

/-- GET_LINK_STATUS. -/
def execGetLinkStatus (tag : Byte) (args : List Byte) (s : State) : Host.Outcome State Fault Refusal :=
  .next (serve kindGetLinkStatus tag (getLinkStatus args) s)

/-- UNKNOWN_KIND (R162): nothing when the kind is a request kind after all. -/
def execUnknownKind (kind tag : Byte) (body : List Byte) (s : State) : Host.Outcome State Fault Refusal :=
  match handlerOf kind with
  | some _ => .next s
  | none => .next (serve kind tag (requestHandler { kind := kind, tag := tag, body := body }) s)

/-- REQUEST_START (R161): the head request is started when no other is being carried out. -/
def execRequestStart (s : State) : Host.Outcome State Fault Refusal :=
  match s.link.serving, s.link.inbound with
  | none, r :: rest => .next (carryOut r.kind r.tag (requestHandler r) (s.modLink fun l => { l with inbound := rest }))
  | _, _ => .next s

/-- REPLY_ENTERS_SLOT (R161): a reply that waited enters the freed slot. -/
def execReplyEntersSlot (s : State) : Host.Outcome State Fault Refusal :=
  match s.link.serving with
  | some (.reply kind tag body) => .next (s.modLink (·.answer kind tag body))
  | _ => .next s

/-- FRAME_SENT (R163): the frame being sent has left the line, and its slot is free. -/
def execFrameSent (s : State) : Host.Outcome State Fault Refusal :=
  match s.link.outbound with
  | [] => .next s
  | f :: rest => .next (s.modLink fun l => { l with outbound := rest, sent := frameBytes f.kind f.tag f.body })

/-- VALID_FRAME (R157): the characters that end with a valid frame. -/
def execValidFrame (chars : List RxChar) (s : State) : Host.Outcome State Fault Refusal := .next (receive chars s)

/-- INTER_CHARACTER_GAP (R158): characters, then a gap of more than 5 ms. -/
def execInterCharacterGap (chars : List RxChar) (s : State) : Host.Outcome State Fault Refusal :=
  .next (characterGap (receive chars s))

/-- BREAK (R159): characters, then a space of 1 ms. -/
def execBreak (chars : List RxChar) (s : State) : Host.Outcome State Fault Refusal := .next (takeBreak (receive chars s))

/-- DISCARDED_FRAME (R158): the characters that end with a discard. -/
def execDiscardedFrame (chars : List RxChar) (s : State) : Host.Outcome State Fault Refusal := .next (receive chars s)

end Sys2Proof.Machine
end

