-- ==== Sys2Proof/Machine/RingCommands.lean ====
section
/-! DEFINITION. The events of the ring and of the Protection Unit (02, 06). -/

namespace Sys2Proof.Machine

/-- RING_PERIOD (R126): the past period is settled, the new telegrams are sent. -/
def execRingPeriod (order : List Nat) (s : State) : Host.Outcome State Fault Refusal :=
  .next (sendPeriod (settlePeriod order s))

/-- The start of a period without a good telegram brings the dark run to 20 (R139). -/
def Ring.darkDue (r : Ring) : Bool := r.running && !r.goodSeen && r.darkRun + 1 == darkLimit

/-- DARK_RUN_LIMIT (R139): the rise of the dark run that reaches 20 (log 4). -/
def execDarkRunLimit (s : State) : Host.Outcome State Fault Refusal :=
  if s.ring.darkDue then .next (raiseDarkRun s) else .next s

/-- TELEGRAM_RETURN (R127): nothing at a port that does not receive (R123). -/
def execTelegramReturn (port : PortId) (bytes : List Byte) (order : List Nat) (s : State) :
    Host.Outcome State Fault Refusal :=
  if s.ring.receives port then .next (returnTelegram port bytes order s) else .next s

/-- A missed settlement of this node makes it SILENT (R132). -/
def State.silenceDue (s : State) (identity : Nat) : Bool :=
  (s.heardNode? identity).any (fun n => n.state == .present && decide (silentRun ≤ satAdd 255 n.missRun))

/-- NODE_SILENT (R132): the missed settlement that brings a PRESENT node's run to 20 (log 4). -/
def execNodeSilent (identity : Nat) (s : State) : Host.Outcome State Fault Refusal :=
  if s.silenceDue identity then .next (nodeMissed identity s) else .next s

/-- A port's link changes (R124). -/
def Port.linkChange (up : Bool) (p : Port) : Port :=
  if p.linkUp = up then p else if up then { p with linkUp := true } else { p with linkUp := false, latch := true }

/-- PORT_LINK_CHANGE (R124). -/
def execPortLinkChange (port : PortId) (up : Bool) (s : State) : Host.Outcome State Fault Refusal :=
  .next (s.modRing (·.modPort port (·.linkChange up)))

/-- A good link-up announce clears the latch of a port that is not SHUT (R124). -/
def Port.announce (p : Port) : Port := if p.mode = .shut then p else { p with latch := false }

/-- LINK_UP_ANNOUNCE (R124). -/
def execLinkUpAnnounce (port : PortId) (s : State) : Host.Outcome State Fault Refusal :=
  .next (s.modRing (·.modPort port (·.announce)))

/-! ## The Protection Unit -/

/-- The sample ends a rise in step 3c: the rise has K_max samples and nothing trips (R38). -/
def Context.endsAtLimit (vehicles : Nat) (i : Int) (v : Nat) (c : Context) : Bool :=
  let x := c.intake i v
  let cur := clampCurrent i
  x.ordinary && x.rising && decide ((x.settings.dHold : Int) ≤ x.difference cur) &&
    !(x.riseStep vehicles cur).1.rising && (x.causeOf vehicles cur).isNone

/-- RISE_LIMIT (R38): the sample that ends a rise at K_max (log 4). -/
def execRiseLimit (feeder : Nat) (current : Int) (voltage : Nat) (s : State) : Host.Outcome State Fault Refusal :=
  if (s.context? feeder).any (·.endsAtLimit (s.feederVehicles feeder) current voltage) then
    .next (goodSample feeder current voltage s)
  else .next s

/-- A sample and the trip it gives, one after the other (R42). -/
def sampleWithTrip (feeder : Nat) (i : Int) (v : Nat) (cause : TripCause) (s : State) : State :=
  match sampleTrip feeder i v s with
  | some (c, fig) => if c = cause then takeTrip feeder c fig (goodSample feeder i v s) else s
  | none => s

/-- OVERCURRENT_RUN (R40): the sample that trips with cause OVERCURRENT (log 4). -/
def execOvercurrentRun (feeder : Nat) (current : Int) (voltage : Nat) (s : State) : Host.Outcome State Fault Refusal :=
  .next (sampleWithTrip feeder current voltage .overcurrent s)

/-- SATURATION_RUN (R41): the sample that trips with cause SATURATION (log 4). -/
def execSaturationRun (feeder : Nat) (current : Int) (voltage : Nat) (s : State) : Host.Outcome State Fault Refusal :=
  .next (sampleWithTrip feeder current voltage .saturation s)

/-- PROTECTION_BLIND (R44): the missed sample that makes a context BLIND (log 4). -/
def execProtectionBlind (feeder : Nat) (s : State) : Host.Outcome State Fault Refusal :=
  if (s.context? feeder).any (·.blindsNext) then .next (missedSample feeder s) else .next s

end Sys2Proof.Machine
end

