-- ==== Sys2Proof/Machine/Timers.lean ====
section
/-! DEFINITION. The expiries of the part's timers (R1, R11, R13, R28, R54, R59, R61, R68, R81, R86, R96, R114, R154). Each acts
when its timer runs and its time has come, and changes nothing otherwise (log 3). -/

namespace Sys2Proof.Machine

/-- The suspect watch of a record has run its 2000 ms (R54). R54 has the record watch no later than 2000 ms after the trip and the watch
end at 2000 ms: in that very millisecond the model ends it when SUSPECT_WATCH_END is taken, and an entry taken before that is still
named, one taken after it is not (DESIGN CHOICE, log 58). -/
def TripRecord.watchDue (now : Time) (r : TripRecord) : Bool := r.watching && timeUp now r.time.t suspectSpan

/-- Ends the watch of the record at an index, if it is due. -/
def endWatch (now : Time) : Nat → List TripRecord → List TripRecord
  | _, [] => []
  | 0, r :: rest => (if r.watchDue now then { r with watching := false } else r) :: rest
  | n + 1, r :: rest => r :: endWatch now n rest

/-- SUSPECT_WATCH_END of the trip record at an index from 1 (R54). -/
def execSuspectWatchEnd (index : Nat) (s : State) : Host.Outcome State Fault Refusal :=
  .next (if index = 0 then s else s.modTrips (endWatch s.time.now (index - 1)))

/-- The close confirmation time of a section has expired (R10, R11). -/
def Section.closeDue (now : Time) (x : Section) : Bool :=
  x.state == .closing && timeUp? now x.closingSince closeConfirmMs

/-- CLOSE_CONFIRM_TIMEOUT (R11). -/
def execCloseConfirmTimeout (sect : Nat) (s : State) : Host.Outcome State Fault Refusal :=
  match s.section? sect with
  | some x => if x.closeDue s.time.now then .next (failToClose x s) else .next s
  | none => .next s

/-- The open confirmation time of a feeder has expired with its order still OPEN (R13). -/
def Feeder.openDue (now : Time) (f : Feeder) : Bool :=
  f.order == .opens && f.confirming && timeUp? now (f.orderStart.map (·.t)) openConfirmMs

/-- A feeder fails to open; its order goes on (R13). -/
def Feeder.failOpen (f : Feeder) : Feeder := { f with health := .failToOpen, confirming := false }

/-- OPEN_CONFIRM_TIMEOUT (R9, R13). -/
def execOpenConfirmTimeout (feeder : Nat) (s : State) : Host.Outcome State Fault Refusal :=
  match s.feeder? feeder with
  | some f =>
    if f.openDue s.time.now then .next (raise .breakerFail feeder (s.modFeeder feeder (·.failOpen))) else .next s
  | none => .next s

/-- The adoption deadline has expired (R27, R28). -/
def SectionControl.adoptionDue (now : Time) (c : SectionControl) : Bool :=
  match c.adoption with
  | .running since => timeUp now since adoptionMs
  | .waiting | .over => false

/-- ADOPTION_DEADLINE (R28). -/
def execAdoptionDeadline (s : State) : Host.Outcome State Fault Refusal :=
  if s.sec.adoptionDue s.time.now then
    .next (forEach ((s.sec.sections.filter (fun x => x.state == .unsettled)).map (·.number))
      (fun n t => lockOut n .nodeAbsent t) { s with sec := { s.sec with adoption := .over } })
  else .next s

/-- The reclose delay of a section has expired (R60, R61). -/
def Section.delayDue (now : Time) (x : Section) : Bool :=
  x.state == .recloseWait && timeUp? now x.delayStart (100 * x.settings.delay)

/-- RECLOSE_DELAY_EXPIRY (R61). -/
def execRecloseDelayExpiry (sect : Nat) (s : State) : Host.Outcome State Fault Refusal :=
  match s.section? sect with
  | some x => if x.delayDue s.time.now then .next (recloseStep x s) else .next s
  | none => .next s

/-- The W timer of an OPEN window has expired (R59). -/
def Section.windowDue (now : Time) (x : Section) : Bool :=
  x.window == .opened && timeUp? now (x.windowStart.map (·.t)) (1000 * x.settings.window)

/-- What the expiry of W does to a section record (R59). -/
def Section.expireWindow (x : Section) : Section := if x.state = .live then x.closeWindow else { x with window := .expired }

/-- WINDOW_EXPIRY (R59). -/
def execWindowExpiry (sect : Nat) (s : State) : Host.Outcome State Fault Refusal :=
  .next (s.modSection sect fun x => if x.windowDue s.time.now then x.expireWindow else x)

/-- The head's test has timed out (R68). -/
def TestUnit.testDue (now : Time) (u : TestUnit) : Bool := timeUp? now u.orderedAt testTimeoutMs

/-- TEST_TIMEOUT (R68). -/
def execTestTimeout (unit : Nat) (s : State) : Host.Outcome State Fault Refusal :=
  match s.testUnit? unit with
  | some u => if u.testDue s.time.now then .next (testGivesUp u s) else .next s
  | none => .next s

/-- T_throw has passed in MOVING (R86). -/
def SwitchPoint.throwDue (now : Time) (w : SwitchPoint) : Bool :=
  w.state == .moving && timeUp? now (w.throw.map (·.start)) (100 * w.tThrow)

/-- A throw times out: FAULT when the unit was heard, UNCERTAIN otherwise (R86). -/
def throwGivesUp (n : Nat) (w : SwitchPoint) (s : State) : State :=
  updateAspect n
    (if w.throw.any (·.seen) then enterFault n .throwTimeout s else s.modSwitch n (·.lose .uncertain))

/-- THROW_TIMEOUT (R86). -/
def execThrowTimeout (switch : Nat) (s : State) : Host.Outcome State Fault Refusal :=
  match s.switch? switch with
  | some w => if w.throwDue s.time.now then .next (throwGivesUp switch w s) else .next s
  | none => .next s

/-- A request not in passage has reached its age limit (R81). -/
def SwitchRequest.expired (now : Time) (tReq : Nat) (r : SwitchRequest) : Bool :=
  !r.inPassage && timeUp now r.created.t (1000 * tReq)

/-- REQUEST_EXPIRY of a vehicle's request at a switch point (R81). -/
def execRequestExpiry (switch vehicle : Nat) (s : State) : Host.Outcome State Fault Refusal :=
  match s.switch? switch with
  | some w =>
    if w.queue.any (fun r => r.vehicle == vehicle && r.expired s.time.now s.map.tReq) then
      .next (changeQueue switch (fun q => q.filter (fun r => r.vehicle != vehicle)) s)
    else .next s
  | none => .next s

/-- HOLD_LONG (R96). -/
def execHoldLong (switch : Nat) (s : State) : Host.Outcome State Fault Refusal := .next (checkHoldLong switch s)

/-- SIGHT_TIMEOUT (R114). -/
def execSightTimeout (vehicle : Nat) (s : State) : Host.Outcome State Fault Refusal :=
  match s.vehicle? vehicle with
  | some v => if v.sightDue s.time.now s.map.tSight then .next (goOutOfSight vehicle s) else .next s
  | none => .next s

/-- The host silence timer runs and has expired (R153). -/
def State.silenceOver (s : State) : Bool :=
  s.map.tSilence != 0 && timeUp? s.time.now s.cond.silence (1000 * s.map.tSilence)

/-- The pins are released, and PINS_RELEASED is raised when there was one (R98, R154). -/
def releaseAllPins (s : State) : State :=
  if s.switches.any (·.pin.isSome) then raise .pinsReleased 0 (releasePins s) else releasePins s

/-- HOST_SILENCE_EXPIRY (R153, R154): the timer does not run again until the next valid frame. -/
def execHostSilenceExpiry (s : State) : Host.Outcome State Fault Refusal :=
  if s.silenceOver then
    .next (releaseAllPins (raise .autonomous 0 (s.modCond fun u => { u with silence := none })))
  else .next s

/-! ## Ageing (R1) -/

/-- A section's timestamps: live since, and the window start unless its timer runs. -/
def Section.age (now : Time) (x : Section) : Section :=
  { x with liveSince := x.liveSince.map (·.ageAt now)
           windowStart := x.windowStart.map (·.ageUnless (x.window == .opened) now) }

/-- A feeder's order start time, unless its open confirmation time runs. -/
def Feeder.age (now : Time) (f : Feeder) : Feeder :=
  { f with orderStart := f.orderStart.map (·.ageUnless f.confirming now) }

/-- A trip record's time, unless it watches. -/
def TripRecord.age (now : Time) (r : TripRecord) : TripRecord := { r with time := r.time.ageUnless r.watching now }

/-- A request's created time, unless its age limit runs. -/
def SwitchRequest.age (now : Time) (r : SwitchRequest) : SwitchRequest :=
  { r with created := r.created.ageUnless (!r.inPassage) now }

/-- A switch point's requests. -/
def SwitchPoint.age (now : Time) (w : SwitchPoint) : SwitchPoint := { w with queue := w.queue.map (·.age now) }

/-- A fault entry's times. -/
def FaultEntry.age (now : Time) (e : FaultEntry) : FaultEntry :=
  { e with firstSeen := e.firstSeen.ageAt now, lastSeen := e.lastSeen.ageAt now }

/-- A vehicle record's last seen time, unless its sight timeout runs, and its fault entries. -/
def Vehicle.age (now : Time) (v : Vehicle) : Vehicle :=
  { v with lastSeen := v.lastSeen.ageUnless v.inSight now, faults := v.faults.map (·.age now) }

/-- A node entry's status time. -/
def Node.age (now : Time) (n : Node) : Node := { n with statusAt := n.statusAt.map (·.ageAt now) }

/-- A condition entry's times. -/
def CondEntry.age (now : Time) (e : CondEntry) : CondEntry := { e with first := e.first.ageAt now, last := e.last.ageAt now }

/-- Every stored timestamp that is not the start of a running timer and lies 2^31 ms back is marked aged (R1). -/
def ageState (s : State) : State :=
  { s with
    sec := { s.sec with
      sections := s.sec.sections.map (·.age s.time.now)
      feeders := s.sec.feeders.map (·.age s.time.now)
      trips := s.sec.trips.map (·.age s.time.now) }
    switches := s.switches.map (·.age s.time.now)
    reg := { s.reg with vehicles := s.reg.vehicles.map (·.age s.time.now) }
    ring := { s.ring with nodes := s.ring.nodes.map (·.age s.time.now) }
    cond := { s.cond with
      entries := s.cond.entries.map (·.age s.time.now)
      overflow := s.cond.overflow.map (·.age s.time.now) } }

/-- TIMESTAMP_AGED (R1). -/
def execTimestampAged (s : State) : Host.Outcome State Fault Refusal := .next (ageState s)

end Sys2Proof.Machine
end

