-- ==== Sys2Proof/Machine/Tick.lean ====
section
/-! DEFINITION. What the part does of itself while no command waits: the inbound queue goes on (R161), or else 500 us pass,
and the events that are then due are put into the queue (log 1). -/

namespace Sys2Proof.Machine

/-- One ring period of 500 us passes (R1, R126). -/
def TimeBase.advance (t : TimeBase) : TimeBase :=
  if t.half then { t with now := t.now + 1, half := false } else { t with half := true }

/-- The expiries due in the Section Controller. -/
def dueSections (s : State) : List Instr :=
  (s.sec.sections.filter (·.closeDue s.time.now)).map (fun x => Instr.closeConfirmTimeout x.number) ++
  (s.sec.feeders.filter (·.openDue s.time.now)).map (fun f => Instr.openConfirmTimeout f.number) ++
  (if s.sec.adoptionDue s.time.now then [Instr.adoptionDeadline] else []) ++
  (s.sec.sections.filter (·.delayDue s.time.now)).map (fun x => Instr.recloseDelayExpiry x.number) ++
  (s.sec.sections.filter (·.windowDue s.time.now)).map (fun x => Instr.windowExpiry x.number) ++
  (s.sec.testUnits.filter (·.testDue s.time.now)).map (fun u => Instr.testTimeout u.number) ++
  (((numbersFrom 1 s.sec.trips.length).zip s.sec.trips).filter (fun x => x.2.watchDue s.time.now)).map
    (fun x => Instr.suspectWatchEnd x.1)

/-- The expiries due in the Switch Point Controller. -/
def dueSwitches (s : State) : List Instr :=
  (s.switches.filter (·.throwDue s.time.now)).map (fun w => Instr.throwTimeout w.number) ++
  s.switches.flatMap (fun w =>
    (w.queue.filter (·.expired s.time.now s.map.tReq)).map fun r => Instr.requestExpiry w.number r.vehicle) ++
  (s.switches.filter (·.holdLongDue s.time.now s.map.tHold)).map (fun w => Instr.holdLong w.number)

/-- The other expiries due: sight timeouts, host silence, ageing timestamps. -/
def dueOthers (s : State) : List Instr :=
  (s.reg.vehicles.filter (·.sightDue s.time.now s.map.tSight)).map (fun v => Instr.sightTimeout v.number) ++
  (if s.silenceOver then [Instr.hostSilenceExpiry] else []) ++
  (if ageState s = s then [] else [Instr.timestampAged])

/-- The ends of store operations that are due. What takes its time on the line is not made here: FRAME_SENT (log 8) and
INTER_CHARACTER_GAP (DESIGN CHOICE, log 60) come from outside. -/
def dueLink (s : State) : List Instr :=
  match s.store.busy with
  | some (.write _ _ start) => if timeUp s.time.now start pageWriteMs then [Instr.pageWriteFinished] else []
  | some (.erase start) => if timeUp s.time.now start mapEraseMs then [Instr.mapEraseFinished] else []
  | none => []

/-- Everything due of itself at a moment: the ring period first, then the expiries (log 1). -/
def dueEvents (s : State) : List Instr :=
  Instr.ringPeriod [] :: (dueSections s ++ dueSwitches s ++ dueOthers s ++ dueLink s)

/-- R161: how the inbound queue goes on at once. A reply that waits for a slot enters it when one is free; the head request starts
when no other is being carried out; a store operation that takes time keeps the head until it has finished. -/
def dueRequest (s : State) : List Instr :=
  match s.link.serving with
  | some (.reply _ _ _) => if s.link.replySlotFree then [Instr.replyEntersSlot] else []
  | some (.store _ _) => []
  | none => if s.link.inbound.isEmpty then [] else [Instr.requestStart]

/-- 500 us pass with no command waiting and no request to go on with. -/
def tick (s : State) : State :=
  let t := { s with time := s.time.advance }
  { t with pending := dueEvents t }

/-- What the part does of itself while no command waits (log 1): the next request starts, or the waiting reply enters its slot, at
the moment that stands ("The next request then starts", R161); with neither to go on, 500 us pass. -/
def onEmptyQueue (s : State) : State :=
  match dueRequest s with
  | [] => tick s
  | c :: cs => { s with pending := c :: cs }

end Sys2Proof.Machine
end

