-- ==== Sys2Proof/Machine/Dispatch.lean ====
section
/-! DEFINITION. The dispatch: one meaning for each command. -/

namespace Sys2Proof.Machine

/-- A command's effect on everything but the queue. -/
def exec (i : Instr) (s : State) : Host.Outcome State Fault Refusal :=
    match i with
    | .reset fastRate linkA linkB => Sys2Proof.Machine.execReset fastRate linkA linkB s
    | .emergencyAsserted => Sys2Proof.Machine.execEmergencyAsserted s
    | .emergencyReleased => Sys2Proof.Machine.execEmergencyReleased s
    | .validFrame chars => Sys2Proof.Machine.execValidFrame chars s
    | .interCharacterGap chars => Sys2Proof.Machine.execInterCharacterGap chars s
    | .lineBreak chars => Sys2Proof.Machine.execBreak chars s
    | .requestStart => Sys2Proof.Machine.execRequestStart s
    | .replyEntersSlot => Sys2Proof.Machine.execReplyEntersSlot s
    | .frameSent => Sys2Proof.Machine.execFrameSent s
    | .unknownKind kind tag body => Sys2Proof.Machine.execUnknownKind kind tag body s
    | .identify tag args => Sys2Proof.Machine.execIdentify tag args s
    | .ping tag args => Sys2Proof.Machine.execPing tag args s
    | .getLinkStatus tag args => Sys2Proof.Machine.execGetLinkStatus tag args s
    | .getSection tag args => Sys2Proof.Machine.execGetSection tag args s
    | .energise tag args => Sys2Proof.Machine.execEnergise tag args s
    | .deEnergise tag args => Sys2Proof.Machine.execDeEnergise tag args s
    | .isolate tag args => Sys2Proof.Machine.execIsolate tag args s
    | .restore tag args => Sys2Proof.Machine.execRestore tag args s
    | .release tag args => Sys2Proof.Machine.execRelease tag args s
    | .getFeeder tag args => Sys2Proof.Machine.execGetFeeder tag args s
    | .getTrip tag args => Sys2Proof.Machine.execGetTrip tag args s
    | .setProtection tag args => Sys2Proof.Machine.execSetProtection tag args s
    | .getSwitch tag args => Sys2Proof.Machine.execGetSwitch tag args s
    | .pin tag args => Sys2Proof.Machine.execPin tag args s
    | .unpin tag args => Sys2Proof.Machine.execUnpin tag args s
    | .switchRestore tag args => Sys2Proof.Machine.execSwitchRestore tag args s
    | .holdOn tag args => Sys2Proof.Machine.execHoldOn tag args s
    | .holdOff tag args => Sys2Proof.Machine.execHoldOff tag args s
    | .clearQueue tag args => Sys2Proof.Machine.execClearQueue tag args s
    | .addRequest tag args => Sys2Proof.Machine.execAddRequest tag args s
    | .getVehicle tag args => Sys2Proof.Machine.execGetVehicle tag args s
    | .listVehicles tag args => Sys2Proof.Machine.execListVehicles tag args s
    | .clearVehicleFault tag args => Sys2Proof.Machine.execClearVehicleFault tag args s
    | .forgetVehicle tag args => Sys2Proof.Machine.execForgetVehicle tag args s
    | .getConditions tag args => Sys2Proof.Machine.execGetConditions tag args s
    | .clearCondition tag args => Sys2Proof.Machine.execClearCondition tag args s
    | .clearConditionAll tag args => Sys2Proof.Machine.execClearConditionAll tag args s
    | .setEnables tag args => Sys2Proof.Machine.execSetEnables tag args s
    | .getRing tag args => Sys2Proof.Machine.execGetRing tag args s
    | .getNode tag args => Sys2Proof.Machine.execGetNode tag args s
    | .setMode tag args => Sys2Proof.Machine.execSetMode tag args s
    | .reopen tag args => Sys2Proof.Machine.execReopen tag args s
    | .restart tag args => Sys2Proof.Machine.execRestart tag args s
    | .readPage tag args => Sys2Proof.Machine.execReadPage tag args s
    | .writePage tag args => Sys2Proof.Machine.execWritePage tag args s
    | .pageWriteFinished => Sys2Proof.Machine.execPageWriteFinished s
    | .eraseMap tag args => Sys2Proof.Machine.execEraseMap tag args s
    | .mapEraseFinished => Sys2Proof.Machine.execMapEraseFinished s
    | .applyMap tag args => Sys2Proof.Machine.execApplyMap tag args s
    | .ringPeriod order => Sys2Proof.Machine.execRingPeriod order s
    | .darkRunLimit => Sys2Proof.Machine.execDarkRunLimit s
    | .telegramReturn port bytes order => Sys2Proof.Machine.execTelegramReturn port bytes order s
    | .nodeSilent identity => Sys2Proof.Machine.execNodeSilent identity s
    | .portLinkChange port up => Sys2Proof.Machine.execPortLinkChange port up s
    | .linkUpAnnounce port => Sys2Proof.Machine.execLinkUpAnnounce port s
    | .riseLimit feeder current voltage => Sys2Proof.Machine.execRiseLimit feeder current voltage s
    | .overcurrentRun feeder current voltage => Sys2Proof.Machine.execOvercurrentRun feeder current voltage s
    | .saturationRun feeder current voltage => Sys2Proof.Machine.execSaturationRun feeder current voltage s
    | .protectionBlind feeder => Sys2Proof.Machine.execProtectionBlind feeder s
    | .suspectWatchEnd index => Sys2Proof.Machine.execSuspectWatchEnd index s
    | .closeConfirmTimeout sect => Sys2Proof.Machine.execCloseConfirmTimeout sect s
    | .openConfirmTimeout feeder => Sys2Proof.Machine.execOpenConfirmTimeout feeder s
    | .adoptionDeadline => Sys2Proof.Machine.execAdoptionDeadline s
    | .recloseDelayExpiry sect => Sys2Proof.Machine.execRecloseDelayExpiry sect s
    | .windowExpiry sect => Sys2Proof.Machine.execWindowExpiry sect s
    | .testTimeout unit => Sys2Proof.Machine.execTestTimeout unit s
    | .throwTimeout switch => Sys2Proof.Machine.execThrowTimeout switch s
    | .requestExpiry switch vehicle => Sys2Proof.Machine.execRequestExpiry switch vehicle s
    | .holdLong switch => Sys2Proof.Machine.execHoldLong switch s
    | .sightTimeout vehicle => Sys2Proof.Machine.execSightTimeout vehicle s
    | .hostSilenceExpiry => Sys2Proof.Machine.execHostSilenceExpiry s
    | .discardedFrame chars => Sys2Proof.Machine.execDiscardedFrame chars s
    | .timestampAged => Sys2Proof.Machine.execTimestampAged s

end Sys2Proof.Machine
end

