-- ==== Sys2Proof/Safety.lean ====
section
/-! DEFINITION. What counts as a safe state and a safe step of the part, in the terms the claims use. -/

namespace Sys2Proof.Machine

/-- A request that comes now is carried out at once and its reply has a slot (R160, R161, R163). -/
def State.ready (s : State) : Bool := s.link.canServe && s.link.replySlotFree

/-- The state after a reply has entered a reply slot, everything else as it was. -/
def State.replied (s : State) (kind tag : Byte) (body : List Byte) : State := s.modLink (·.pushReply kind tag body)

/-- What no command changes but RESET, the two installations and the store's own commands: part time, the installed map, the
store, the free values used, the queue. -/
def State.sameBase (s t : State) : Prop :=
  t.pending = s.pending ∧ t.draws = s.draws ∧ t.time = s.time ∧ t.map = s.map ∧ t.store = s.store

/-- What a command that concerns the Switch Point Controller alone leaves as it was; a condition raised on the way and its
notice may be added. -/
def State.sameButSwitches (s t : State) : Prop :=
  s.sameBase t ∧ t.sec = s.sec ∧ t.prot = s.prot ∧ t.reg = s.reg ∧ t.ring = s.ring

/-- A command is RESET. -/
def isReset : Instr → Prop
  | .reset _ _ _ => True
  | _ => False

/-- A command that can install a map: RESET, APPLY_MAP, or the start of a queued request, which may be APPLY_MAP. -/
def mayInstall : Instr → Prop
  | .reset _ _ _ | .applyMap _ _ | .requestStart => True
  | _ => False

/-- A command that can change the store: RESET, the requests that write or erase or a queued one, and their ends. -/
def mayStore : Instr → Prop
  | .reset _ _ _ | .writePage _ _ | .eraseMap _ _ | .requestStart | .pageWriteFinished | .mapEraseFinished => True
  | _ => False

/-- Characters received without a framing fault. -/
def clean (bytes : List Byte) : List RxChar := bytes.map fun b => { value := b }

/-- The kinds of 10.3, one by one. -/
def requestKinds : List Byte :=
  [0x01, 0x02, 0x03, 0x10, 0x11, 0x12, 0x13, 0x18, 0x20, 0x21, 0x22, 0x28, 0x29, 0x2A, 0x2B, 0x30, 0x31, 0x32, 0x38, 0x39,
    0x3A, 0x40, 0x41, 0x42, 0x43]

/-- The frame of a reply to a request: its kind plus 80h, its tag, its body (R162). -/
def replyFrame (kind tag : Byte) (body : List Byte) : OutFrame :=
  { notice := false, kind := kind + 0x80, tag := tag, body := body }

/-- A condition entry made now (R145): count 1, both times the present, cause HOLDING for a level kind. -/
def State.freshEntry (s : State) (k : CondKind) (n : Nat) : CondEntry :=
  { kind := k, subject := n, first := s.stamp, last := s.stamp, count := 1, cause := if k.isLevel then some .holding else none }

/-- The frames in reply slots. -/
def Link.replies (l : Link) : List OutFrame := l.outbound.filter (fun f => !f.notice)

/-- The frames in notice slots. -/
def Link.notices (l : Link) : List OutFrame := l.outbound.filter (·.notice)

/-- The Control Link Interface stays within its queue, its slots and its counters (R160, R163, R164). -/
def Link.ok (l : Link) : Prop :=
  l.queued ≤ inboundCapacity ∧ l.replies.length ≤ replySlots ∧ l.notices.length ≤ noticeSlots ∧
    l.discards ≤ counterLimit ∧ l.breaks ≤ counterLimit

/-- No two entries have the same kind and subject (R144). -/
def distinctEntries (l : List CondEntry) : Prop := l.Pairwise (fun a b => ¬(a.kind = b.kind ∧ a.subject = b.subject))

/-- The condition set stays within its places, without repeats, and the ATTENTION line agrees with it (R144, R150). -/
def ConditionUnit.ok (u : ConditionUnit) : Prop :=
  u.entries.length ≤ conditionCapacity ∧ distinctEntries u.entries ∧ u.attention = u.review.attention

/-- A map page that is not WRITTEN reads FFh throughout: no cell lies in it (R166). -/
def Store.blankPages (st : Store) : Prop := ∀ c ∈ st.mem, c.1 < 256 ∨ st.written.contains (c.1 / 256) = true

/-- A running page write is one of a WRITTEN map page, with 256 bytes (R169). -/
def Store.busyOk (st : Store) : Prop :=
  match st.busy with
  | some (.write page data _) => 1 ≤ page ∧ page ≤ 63 ∧ data.length = 256 ∧ st.written.contains page = true
  | some (.erase _) => True
  | none => True

/-- The store keeps its canonical form and its erased pages stay blank (R166, R169). -/
def Store.ok (st : Store) : Prop := Memory.wf st.mem = true ∧ st.blankPages ∧ st.busyOk

/-- The trip record list and the vehicle table stay within their places, and no map has no version (R56, R100, R101, R176). -/
def State.tablesOk (s : State) : Prop :=
  s.sec.trips.length ≤ tripCapacity ∧ s.reg.vehicles.length ≤ vehicleCapacity ∧
    (∀ v ∈ s.reg.vehicles, v.faults.length ≤ faultCapacity) ∧ (s.map.valid = false → s.map.version = 0)

/-- The optional fields and the flags of a section record follow its state (R3, R58). -/
def Section.ok (x : Section) : Prop :=
  (x.destination.isSome = true ↔ x.state = .opening ∨ x.state = .tripped) ∧
    (x.state = .opening → x.destination ≠ some .recloseWait) ∧
    (x.lockReason.isSome = true ↔ x.state = .lockedOut) ∧
    (x.origin.isSome = true ↔ x.state = .closing ∨ x.state = .live) ∧
    (x.liveSince.isSome = true ↔ x.state = .live) ∧ (x.closingSince.isSome = true ↔ x.state = .closing) ∧
    (x.delayStart.isSome = true ↔ x.state = .recloseWait) ∧
    (x.cancel = true → x.state = .tripped) ∧ (x.stop = true → x.state = .testing) ∧
    (x.windowStart.isSome = true ↔ x.window ≠ .closed)

/-- The section table holds one record for each number, each as R3 has it. -/
def State.sectionsOk (s : State) : Prop :=
  (s.sec.sections.map (·.number)).Nodup ∧ ∀ x ∈ s.sec.sections, x.ok

/-- Every queued section is in TESTING and stands in the queue of its own unit once; no section has used, or is on the way to
use, more reclose attempts than its R_max; a third test that does not pass leaves LOCKED_OUT (R58, R63, R64, R71). -/
def State.recloseOk (s : State) : Prop :=
  (s.sec.testUnits.map (·.number)).Nodup ∧
    (∀ u ∈ s.sec.testUnits, u.queue.Nodup ∧
      ∀ n ∈ u.queue, ∀ x, s.section? n = some x → x.state = .testing ∧ x.test.map (·.unit) = some u.number) ∧
    ∀ x ∈ s.sec.sections, x.attempts ≤ x.settings.rMax ∧ (x.window = .closed → x.attempts = 0) ∧
      (x.state = .recloseWait ∨ x.state = .testing ∨ x.destination = some .recloseWait →
        x.window ≠ .closed ∧ x.attempts < x.settings.rMax) ∧
      x.testsUsed ≤ 3 ∧ (x.state ≠ .lockedOut → x.testsUsed ≤ 2)

/-- A discrimination context keeps to its fields' ranges, and an IDLE one follows no rise and no run (R29, R31, R33, R36). -/
def Context.ok (c : Context) : Prop :=
  c.limit ≤ 6000 ∧ c.sat ≤ 2 ∧ c.miss ≤ 255 ∧ c.buffer.length ≤ 16 ∧
    (∀ i ∈ c.buffer, -6000 ≤ i ∧ i ≤ 6000) ∧ (∀ i, c.iPrev = some i → -6000 ≤ i ∧ i ≤ 6000) ∧
    (c.latch = true → c.status = .idle) ∧ (c.status ≠ .armed → c.rising = false ∧ c.ov = 0 ∧ c.sat = 0) ∧
    (c.status = .idle → c.iBase = 0 ∧ c.k = 0 ∧ c.limit = 0 ∧ c.nRise = 0 ∧ c.peak = 0)

/-- A switch record keeps to its fields' ranges; its optional fields follow its state; its aspect and its head since are up to
date (R73, R77, R83, R84, R94, R95). -/
def SwitchPoint.ok (w : SwitchPoint) : Prop :=
  w.zone ≤ 3 ∧ w.discrepancy ≤ 1 ∧ w.queue.length ≤ 6 ∧ (w.queue.map (·.vehicle)).Nodup ∧
    (w.throw.isSome = true ↔ w.state = .moving) ∧ (w.fault.isSome = true ↔ w.state = .fault) ∧
    (w.state = .set → w.position.isSome = true) ∧ (w.state = .uncertain ∨ w.state = .fault → w.position = none) ∧
    (w.state = .moving → w.zone = 0) ∧ w.aspect = w.aspectNow ∧ w.headSince.isSome = w.head?.isSome

/-- The switch table holds one record for each number, each as R73 has it, and a MOVING switch point has a LIVE supply section
(R84, R87). -/
def State.switchesOk (s : State) : Prop :=
  (s.switches.map (·.number)).Nodup ∧ ∀ w ∈ s.switches, w.ok ∧ (w.state = .moving → s.supplyLive w = true)

/-- Every request of every switch queue names a vehicle whose record is IN_SIGHT (R77). -/
def State.requestsInSight (s : State) : Prop :=
  ∀ w ∈ s.switches, ∀ r ∈ w.queue, ∃ v ∈ s.reg.vehicles, v.number = r.vehicle ∧ v.inSight = true

/-- The counts of a port stay within their range (R127). -/
def Port.ok (p : Port) : Prop := p.sent ≤ 65535 ∧ p.badCheck ≤ 65535 ∧ p.stale ≤ 65535 ∧ p.lost ≤ 65535

/-- The dark run and the port counts stay within their ranges, and discovery runs exactly in STARTING (R127, R138, R139). -/
def Ring.ok (r : Ring) : Prop :=
  r.darkRun ≤ 20 ∧ r.a.ok ∧ r.b.ok ∧ (r.state = .starting ↔ r.discovery.isSome = true)

/-- A safe state. -/
def State.ok (s : State) : Prop :=
  s.link.ok ∧ s.cond.ok ∧ s.store.ok ∧ s.tablesOk ∧ s.sectionsOk ∧ s.recloseOk ∧ (∀ c ∈ s.prot, c.ok) ∧ s.switchesOk ∧
    s.requestsInSight ∧ s.ring.ok

/-- A safe step: it answers a next state, and a safe state is followed by a safe state. -/
def safeStep (s : State) : Prop := ∃ t, step s = .next t ∧ (s.ok → t.ok)

/-! ## Words of the claims -/

/-- A running trip record of a section takes the outcome CANCELLED and returns to UNREAD (R55, R57). -/
def TripRecord.cancelledFor (n : Nat) (r : TripRecord) : TripRecord :=
  if r.sect = n ∧ r.outcome = none then { r with outcome := some .cancelled, read := false } else r

/-- Two condition sets agree but for the causes of their entries: nothing was raised and nothing cleared. -/
def ConditionUnit.sameButCauses (u v : ConditionUnit) : Prop :=
  v.entries.map (fun e => { e with cause := none }) = u.entries.map (fun e => { e with cause := none }) ∧
    v.overflow = u.overflow ∧ v.enables = u.enables ∧ v.attention = u.attention ∧ v.silence = u.silence

/-- An entry of a kind and subject is in the set and its cause holds; a set that was full may have lost the raise (R145,
R146). -/
def State.showsHolding (s t : State) (k : CondKind) (n : Nat) : Prop :=
  (∃ e ∈ t.cond.entries, e.kind = k ∧ e.subject = n ∧ e.cause = some .holding) ∨ 48 ≤ s.cond.entries.length

/-- A condition has been raised in a handling: its entry was last raised now, or the set is full and may have lost the raise
(R145, R146). -/
def State.raises (s t : State) (k : CondKind) (n : Nat) : Prop :=
  (∃ e ∈ t.cond.entries, e.kind = k ∧ e.subject = n ∧ e.last = s.stamp) ∨ 48 ≤ t.cond.entries.length

/-- A condition has not been raised in a handling: its entries are as they were. -/
def State.doesNotRaise (s t : State) (k : CondKind) (n : Nat) : Prop :=
  t.cond.entries.filter (·.isOf k n) = s.cond.entries.filter (·.isOf k n)

/-- A section record in a state, every optional field absent and both flags clear. -/
def Section.plain (dst : SectionState) (x : Section) : Section :=
  { x with
    state := dst, destination := none, lockReason := none, origin := none, liveSince := none, closingSince := none
    delayStart := none, cancel := false, stop := false }

/-- No section but one has changed. -/
def State.otherSections (s t : State) (n : Nat) : Prop := ∀ m, m ≠ n → t.section? m = s.section? m

/-- No switch point but one has changed. -/
def State.otherSwitches (s t : State) (n : Nat) : Prop := ∀ m, m ≠ n → t.switch? m = s.switch? m

/-! ## Good telegrams (R127 to R129) -/

/-- The bytes at a port are a good telegram: the port receives, the end check and the leg are right, and the number is the
outstanding one of its origin port (R127). -/
def State.takes (s : State) (port : PortId) (bytes : List Byte) (g : Telegram) : Prop :=
  s.ring.receives port = true ∧ readTelegram bytes = some g ∧ (g.back = true ↔ g.origin = port) ∧
    (s.ring.port g.origin).outstanding = some g.number

/-- A good telegram outside discovery that fills in no position (R137) and does not close the period's settlement, another
telegram being still out or no role parcel having been sent (R129). -/
def State.inPeriod (s : State) (port : PortId) (g : Telegram) : Prop :=
  s.ring.state ≠ .starting ∧ fillPositions g port s = s ∧
    (s.ring.roleSent = false ∨ (s.ring.port (otherPort g.origin)).unreturned = true)

/-- The expected tally of a role parcel (R128): the role holders of the kind, on a telegram that came back on its own port those
within its hop count. -/
def State.holders (s : State) (g : Telegram) (port : PortId) (kind : RoleKind) : Nat :=
  (s.ring.nodes.filter (fun n => (n.state == .present || n.state == .silent) && n.role.any (fun r => r.kind == kind) &&
    (g.origin != port || (n.position g.origin).any (fun p => decide (p ≤ g.hops))))).length

/-- Nothing has changed outside the Ring Controller but conditions and notices. -/
def State.sameOutsideRing (s t : State) : Prop := { t with ring := s.ring, cond := s.cond, link := s.link } = s

/-- The node table after a good settlement of a node (R132): its run is 0 and it is PRESENT. -/
def State.nodesHeard (s : State) (identity : Nat) : List Node :=
  s.ring.nodes.map fun n => if n.heard = true ∧ n.identity = identity then { n with missRun := 0, state := .present } else n

/-! ## The end of a period's settlement (R129 to R132, R141) -/

/-- The role indices of a kind: the numbers of its table. -/
def State.indices (s : State) : RoleKind → List Nat
  | .feeder => s.sec.feeders.map (·.number)
  | .switch => s.switches.map (·.number)
  | .beacon => s.reg.beacons.map (·.number)

/-- The indices of a kind that have been settled in the period. -/
def Ring.settled (r : Ring) : RoleKind → List Nat
  | .feeder => r.settledFeeders
  | .switch => r.settledSwitches
  | .beacon => r.settledBeacons

/-- The indices of a kind that no good telegram of the period has brought back served (R129). -/
def State.unserved (s : State) (kind : RoleKind) : List Nat := (s.indices kind).filter fun i => !(s.ring.settled kind).contains i

/-- The nodes whose service is missed when the period is settled, each as often as it is (R129, R132): the holder of each index
unserved, and each test unit to which a parcel was sent and of which none came back served. -/
def State.missedNodes (s : State) : List Nat :=
  [RoleKind.feeder, .switch, .beacon].flatMap
    (fun kind => (s.unserved kind).filterMap fun i => (s.holder? kind i).map (·.identity)) ++
  s.ring.testSent.filter fun i => !s.ring.testServed.contains i

/-- A PRESENT node that the missed services make SILENT: its run reaches 20 (R132). -/
def State.fallsSilent (s : State) (n : Node) : Prop :=
  s.heardNode? n.identity = some n ∧ n.state = .present ∧ n.identity ∈ s.missedNodes ∧
    20 ≤ n.missRun + s.missedNodes.count n.identity

/-- The node table after the missed services (R132): each raises the run of a PRESENT or SILENT entry by one, up to 255; other runs
are not kept. -/
def State.runsRaised (s t : State) : Prop :=
  t.ring.nodes.length = s.ring.nodes.length ∧ ∀ (i : Nat) (n : Node), s.ring.nodes[i]? = some n →
    let k := s.missedNodes.count n.identity
    (n.heard = false ∨ k = 0 → t.ring.nodes[i]? = some n) ∧
    (n.heard = true → 0 < k → ∃ st, t.ring.nodes[i]? = some { n with missRun := min 255 (n.missRun + k), state := st } ∧
      (s.heardNode? n.identity = some n → (s.fallsSilent n → st = .silent) ∧ (¬ s.fallsSilent n → st = n.state)))

/-- What the settlement of the indices left over as missed does (R129 to R132, R141): the Protection Unit takes a missed sample for
each feeder index, runs are raised, a missed beacon has nothing pending; a node that falls SILENT is raised and announced. The sections
and, but for the samples, the contexts are as before unless a node falls SILENT while a line test runs, which its SILENT unit ends;
the switch points unless a node falls SILENT. -/
def State.settlesAsMissed (s t : State) : Prop :=
  let sampled (c : Context) : Context := iter Context.missed ((s.unserved .feeder).count c.number) c
  s.runsRaised t ∧
  t.reg = { s.reg with beacons := s.reg.beacons.map fun b =>
    if b.number ∈ s.ring.settledBeacons then b else { b with reportsHeld := 0 } } ∧
  t.sec.feeders = s.sec.feeders ∧
  ((∀ u ∈ s.sec.testUnits, u.phase = .idle) ∨ (¬ ∃ n, s.fallsSilent n) → t.prot = s.prot.map sampled ∧ t.sec = s.sec ∧
    ∀ c, s.context? c.number = some c → c.status ≠ .blind → (sampled c).status = .blind → s.raises t .protectionBlind c.number) ∧
  (∀ n, s.fallsSilent n → s.raises t .nodeSilent n.identity ∧
    ∀ w ∈ t.switches, w.node = n.identity → w.baseline = false ∧ (w.state = .uncertain ∨ w.state = .fault)) ∧
  ((¬ ∃ n, s.fallsSilent n) → t.switches = s.switches)

/-- A slot of a role exchange that is served and can be read (R128, R179). -/
def slotServed (kind : RoleKind) (slot : List Byte) : Prop :=
  match kind with
  | .feeder => (readFeederSlot slot).isSome = true
  | .switch => (readSwitchSlot slot).isSome = true
  | .beacon => (readBeaconSlot slot).isSome = true

/-- The index of a role has been settled good, and its holder heard (R129, R132). -/
def State.servedBy (s : State) (kind : RoleKind) (i identity : Nat) : State :=
  s.modRing fun r =>
    let x := { r with nodes := s.nodesHeard identity }
    match kind with
    | .feeder => { x with settledFeeders := r.settledFeeders ++ [i] }
    | .switch => { x with settledSwitches := r.settledSwitches ++ [i] }
    | .beacon => { x with settledBeacons := r.settledBeacons ++ [i] }

/-- The order of the node table (R133): by position from A; then those with only a position from B, by that; then the others. -/
def Node.standsBefore (x y : Node) : Prop :=
  match x.posA, y.posA with
  | some a, some b => a ≤ b
  | some _, none => True
  | none, some _ => False
  | none, none =>
    match x.posB, y.posB with
    | some a, some b => a ≤ b
    | some _, none => True
    | none, some _ => False
    | none, none => True

/-! ## The map in the pages (R172, R173, R175, 10.6)

`mapByte m o` and `mapWord m o` read the one or two bytes at an offset of the run of pages 1 to 63. -/

/-- Where the section record `i` begins. -/
def mapSectionAt (i : Nat) : Nat := 14 + 9 * i

/-- Where the feeder record `i` begins. -/
def mapFeederAt (m : Memory) (i : Nat) : Nat := mapSectionAt (mapByte m 4) + 20 * i

/-- Where the switch record `i` begins. -/
def mapSwitchAt (m : Memory) (i : Nat) : Nat := mapFeederAt m (mapByte m 5) + 7 * i

/-- Where the beacon record `i` begins. -/
def mapBeaconAt (m : Memory) (i : Nat) : Nat := mapSwitchAt m (mapByte m 6) + 6 * i

/-- Where the test unit record `i` begins. -/
def mapTestAt (m : Memory) (i : Nat) : Nat := mapBeaconAt m (mapByte m 7) + 8 * i

/-- Where the route entry `i` begins. -/
def mapRouteAt (m : Memory) (i : Nat) : Nat := mapTestAt m (mapByte m 8) + 4 * i

/-- Where the global record begins. -/
def mapGlobalAt (m : Memory) : Nat := mapRouteAt m (mapWord m 9)

/-- What a function of the index gives for the records 0 to n - 1. -/
def ofRecords {α : Type} (n : Nat) (f : Nat → α) : List α := (List.range n).map f

/-- The nodes of the map, in the order of its records, with their kinds and roles (R136, R172). -/
def mapNodesAt (m : Memory) : List MapNode :=
  ofRecords (mapByte m 5) (fun i => { identity := mapWord m (mapFeederAt m i + 2), kind := .feederUnit
                                      role := some { kind := .feeder, index := mapByte m (mapFeederAt m i) } }) ++
  ofRecords (mapByte m 6) (fun i => { identity := mapWord m (mapSwitchAt m i + 1), kind := .switchUnit
                                      role := some { kind := .switch, index := mapByte m (mapSwitchAt m i) } }) ++
  ofRecords (mapByte m 7) (fun i => { identity := mapWord m (mapBeaconAt m i + 1), kind := .beaconUnit
                                      role := some { kind := .beacon, index := mapByte m (mapBeaconAt m i) } }) ++
  ofRecords (mapByte m 8) (fun i => { identity := mapWord m (mapTestAt m i + 1), kind := .testUnit, role := none })

/-- The feeder numbers whose records name a section, in map order. -/
def mapFeedersOf (m : Memory) (n : Nat) : List Nat :=
  ((List.range (mapByte m 5)).filter (fun j => mapByte m (mapFeederAt m j + 1) == n)).map
    (fun j => mapByte m (mapFeederAt m j))

/-- A number in a range. -/
def between (lo n hi : Nat) : Prop := lo ≤ n ∧ n ≤ hi

/-- Checks 4 and 5 of R173, byte by byte: every number, identity, code and setting in its range, no number or identity used twice,
every reference to a record there is, no section with two test channels, one or two feeders to each section. -/
def mapRecordsGood (m : Memory) : Prop :=
  let b := mapByte m
  let w := mapWord m
  let sects := ofRecords (b 4) fun i => b (mapSectionAt i)
  let feeders := ofRecords (b 5) fun i => b (mapFeederAt m i)
  let switches := ofRecords (b 6) fun i => b (mapSwitchAt m i)
  let beacons := ofRecords (b 7) fun i => b (mapBeaconAt m i)
  let tests := ofRecords (b 8) fun i => b (mapTestAt m i)
  let nodes := (mapNodesAt m).map (·.identity)
  let channels := (ofRecords (4 * b 8) fun i => b (mapTestAt m (i / 4) + 4 + i % 4)).filter (fun n => n != 0)
  let g := mapGlobalAt m
  sects.Nodup ∧ feeders.Nodup ∧ switches.Nodup ∧ beacons.Nodup ∧ tests.Nodup ∧ nodes.Nodup ∧ channels.Nodup ∧
  (∀ n ∈ sects, between 1 n 16 ∧ between 1 (mapFeedersOf m n).length 2) ∧
  (∀ n ∈ feeders ++ switches ++ beacons, between 1 n 24) ∧ (∀ n ∈ tests, between 1 n 6) ∧ (∀ n ∈ nodes, between 1 n 4095) ∧
  (∀ n ∈ channels, n ∈ sects) ∧
  (∀ i, i < b 4 → let o := mapSectionAt i
    b (o + 1) ≤ 3 ∧ between 10 (w (o + 2)) 3600 ∧ between 10 (w (o + 4)) 300 ∧ b (o + 6) ≤ 1 ∧ between 1 (w (o + 7)) 500) ∧
  (∀ i, i < b 5 → let o := mapFeederAt m i
    b (o + 1) ∈ sects ∧ between 10 (w (o + 4)) 500 ∧ w (o + 6) ≤ w (o + 4) ∧ between 1 (w (o + 8)) 20 ∧
    between (w (o + 8)) (w (o + 10)) 200 ∧ between 200 (w (o + 12)) 5000 ∧ w (o + 14) ≤ 500 ∧ between 500 (w (o + 16)) 6000 ∧
    between 1 (w (o + 18)) 4000) ∧
  (∀ i, i < b 6 → let o := mapSwitchAt m i
    b (o + 3) ∈ sects ∧ between 1 (b (o + 4)) 2 ∧ between 5 (b (o + 5)) 50 ∧ b (o + 6) ≤ 1) ∧
  (∀ i, i < b 7 → let o := mapBeaconAt m i
    b (o + 3) ∈ sects ∧ ((b (o + 4) = 0 ∧ b (o + 5) = 0) ∨
      (b (o + 4) ∈ switches ∧ (b (o + 5) = 0 ∨ (b (o + 5) ∈ switches ∧ b (o + 5) ≠ b (o + 4)))))) ∧
  (∀ i, i < b 8 → between 10 (b (mapTestAt m i + 3)) 200) ∧
  (∀ i, i < w 9 → let o := mapRouteAt m i
    between 1 (w o) 999 ∧ b (o + 2) ∈ switches ∧ between 1 (b (o + 3)) 2) ∧
  between 10 (w g) 300 ∧ between 30 (w (g + 2)) 600 ∧ between 60 (w (g + 4)) 1800 ∧ b (g + 6) ≤ 60 ∧ b (g + 7) ≤ 3 ∧
  b (g + 8) ≤ 3 ∧ ∀ i, i < 24 → b (g + 9 + i) ≤ 1

/-- The tables and settings hold what the map's bytes give (R2, R6, R30, R63, R73, R102, R111, R123, R136, R149, R172, 10.6): one
record for each record of the map, in order of number, with the map's own fields. -/
def State.holdsMap (t : State) (m : Memory) : Prop :=
  let b := mapByte m
  let w := mapWord m
  let leg (n : Nat) : Leg := if n = 2 then .turn else .straight
  let mode (n : Nat) : Option PortMode := [PortMode.openMode, .shut, .auto, .autoShut][n]?
  let g := mapGlobalAt m
  t.sec.sections.length = b 4 ∧ t.sec.feeders.length = b 5 ∧ t.switches.length = b 6 ∧ t.reg.beacons.length = b 7 ∧
  t.sec.testUnits.length = b 8 ∧ t.prot.map (·.number) = t.sec.feeders.map (·.number) ∧
  (t.sec.sections.map (·.number)).Pairwise (· < ·) ∧ (t.sec.feeders.map (·.number)).Pairwise (· < ·) ∧
  (t.switches.map (·.number)).Pairwise (· < ·) ∧ (t.reg.beacons.map (·.number)).Pairwise (· < ·) ∧
  (t.sec.testUnits.map (·.number)).Pairwise (· < ·) ∧
  (∀ i, i < b 4 → let o := mapSectionAt i
    ∃ x ∈ t.sec.sections, x.number = b o ∧ x.feeders = mapFeedersOf m (b o) ∧
      x.settings = { rMax := b (o + 1), window := w (o + 2), delay := w (o + 4), blind := decide (b (o + 6) = 1)
                     rClear := w (o + 7) } ∧
      ∀ unit channel, x.test = some { unit := unit, channel := channel } ↔
        ∃ k, k < b 8 ∧ unit = b (mapTestAt m k) ∧ between 1 channel 4 ∧ b (mapTestAt m k + 3 + channel) = b o) ∧
  (∀ i, i < b 5 → let o := mapFeederAt m i
    (∃ f ∈ t.sec.feeders, f.number = b o ∧ f.sect = b (o + 1) ∧ f.node = w (o + 2)) ∧
    ∃ c ∈ t.prot, c.number = b o ∧ c.settings = { dStart := w (o + 4), dHold := w (o + 6), kMin := w (o + 8), kMax := w (o + 10)
                                                  lBase := w (o + 12), aVeh := w (o + 14), iOv := w (o + 16)
                                                  nOv := w (o + 18) }) ∧
  (∀ i, i < b 6 → let o := mapSwitchAt m i
    ∃ x ∈ t.switches, x.number = b o ∧ x.node = w (o + 1) ∧ x.supply = b (o + 3) ∧ x.defaultLeg = leg (b (o + 4)) ∧
      x.tThrow = b (o + 5) ∧ x.hold = decide (b (o + 6) = 1)) ∧
  (∀ i, i < b 7 → let o := mapBeaconAt m i
    ∃ x ∈ t.reg.beacons, x.number = b o ∧ x.node = w (o + 1) ∧ x.sect = b (o + 3) ∧
      x.approach = [b (o + 4), b (o + 5)].filter (fun n => n != 0)) ∧
  (∀ i, i < b 8 → let o := mapTestAt m i
    ∃ x ∈ t.sec.testUnits, x.number = b o ∧ x.node = w (o + 1) ∧ x.rTest = b (o + 3)) ∧
  t.map.valid = true ∧ t.map.version = w 2 ∧ t.map.nodes = mapNodesAt m ∧
  t.map.routes = ofRecords (w 9) (fun i =>
    { code := w (mapRouteAt m i), switch := b (mapRouteAt m i + 2), leg := leg (b (mapRouteAt m i + 3)) }) ∧
  t.map.tHold = w g ∧ t.map.tReq = w (g + 2) ∧ t.map.tSight = w (g + 4) ∧ t.map.tSilence = b (g + 6) ∧
  mode (b (g + 7)) = some t.ring.a.mode ∧ mode (b (g + 8)) = some t.ring.b.mode ∧
  t.cond.enables = ofRecords 24 fun i => decide (b (g + 9 + i) = 1)

/-! ## What a telegram carries (R131, R134, R136, R140, R141, 10.5)

Bytes that a unit fills are sent as FFh (R179). -/

/-- Bytes left to the unit. -/
def unitBytes (n : Nat) : List Byte := List.replicate n 0xFF

/-- A ROLE parcel with one slot for each number from 1 to the highest of a table; none for an empty table (R131). -/
def roleParcels (kind : Byte) (role : RoleKind) (numbers : List Nat) (slot : Nat → List Byte) : List Parcel :=
  if numbers = [] then []
  else [{ kind := kind, mode := 3, address := role.code, data := (ofRecords (numbers.foldl max 0) fun i => slot (i + 1)).flatten }]

/-- Parcels 1 to 3 of the schedule (R131): the feeder orders, the throw orders and aspects (R85, R95), the beacon slots. A slot
without a record carries no order and STOP (log 18). -/
def State.exchangeParcels (t : State) : List Parcel :=
  roleParcels 0x03 .feeder (t.sec.feeders.map (·.number)) (fun n =>
    (match t.feeder? n with
      | some f => if f.order = .opens then 2 else if f.order = .close then 1 else 0
      | none => 0) :: 0x00 :: unitBytes 6) ++
  roleParcels 0x03 .switch (t.switches.map (·.number)) (fun n =>
    match t.switch? n with
    | some w =>
      (match w.throw with
        | some h => if w.state ≠ .moving then 0 else if h.target = .straight then 1 else 2
        | none => 0) ::
      (match w.aspect with
        | .stop => 0
        | .proceedStraight => 1
        | .proceedTurn => 2) :: 0x00 :: unitBytes 5
    | none => 0x00 :: 0x00 :: 0x00 :: unitBytes 5) ++
  roleParcels 0x01 .beacon (t.reg.beacons.map (·.number)) (fun _ => 0x00 :: unitBytes 1)

/-- The test parcels (R65 to R67, R131): TEST while ORDERED, STOP while STOPPING, no order while INJECTING, with the head's
channel (log 19) and the test number. -/
def State.testOrders (t : State) : List Parcel :=
  (t.sec.testUnits.filter (fun u => u.phase != .idle)).map fun u =>
    { kind := 0x03, mode := 2, address := u.node
      data := (match u.phase with
          | .ordered => 1
          | .stopping => 2
          | .injecting => 0
          | .idle => 0) ::
        (match (u.queue.head?.bind t.section?).bind (·.test) with
          | some c => u8 c.channel
          | none => 0x00) :: u.testNumber :: unitBytes 7 }

/-- The beacons that may be fetched, those after the last one fetched first (R131, R141, log 23): a pending count above 0 and a
PRESENT node. -/
def State.fetchable (t : State) (last : Option Nat) : List Beacon :=
  let may := t.reg.beacons.filter fun b => decide (0 < b.reportsHeld) && t.nodeState? b.node == some .present
  may.filter (fun b => decide (last.getD 0 < b.number)) ++ may.filter (fun b => decide (b.number ≤ last.getD 0))

/-- The fetch of a beacon with its release number, FFFFh for none (R141). -/
def Beacon.fetch (b : Beacon) : Parcel :=
  { kind := 0x01, mode := 2, address := b.node
    data := (match b.lastReport with
      | some n => [n, 0x00]
      | none => [0xFF, 0xFF]) ++ unitBytes 16 }

/-- The service parcel that gives an entry its role, or reads its status (R140). -/
def Node.service (give : Bool) (n : Node) : Parcel :=
  match give, n.role with
  | true, some r => { kind := 0x03, mode := 2, address := n.identity, data := [u8 r.kind.code, u8 r.index, 0xFF, 0xFF] }
  | _, _ => { kind := 0x01, mode := 2, address := n.identity, data := [0x00, 0x00, 0xFF, 0xFF] }

/-- Index `i` is the next in turn after the last one taken among the entries that satisfy a test, coming round to the first
(R140). -/
def nextInTurn (nodes : List Node) (p : Node → Prop) (last : Option Nat) (i : Nat) : Prop :=
  let later (j : Nat) : Prop := ∀ l, last = some l → l < j
  (∃ n, nodes[i]? = some n ∧ p n) ∧
    ∀ j n, nodes[j]? = some n → p n → (later j → later i ∧ i ≤ j) ∧ (¬ later i → i ≤ j)

/-- An entry of the role rotation: SILENT, with a role (R140). -/
def Node.wantsRole (n : Node) : Prop := n.state = .silent ∧ n.role.isSome = true

/-- An entry of the status rotation: any unit found (R140). -/
def Node.found (n : Node) : Prop := n.state ≠ .missing

/-- The service parcels of the period that leads from `s` to `t`, and the turn and the rotations after it (R140). -/
def State.serviceTurn (s t : State) (service : List Parcel) : Prop :=
  t.ring.roleTurn = !s.ring.roleTurn ∧
  (s.ring.roleTurn = true → (∃ n ∈ t.ring.nodes, n.wantsRole) →
    ∃ i n, nextInTurn t.ring.nodes Node.wantsRole s.ring.roleLast i ∧ t.ring.nodes[i]? = some n ∧
      service = [n.service true] ∧ t.ring.roleLast = some i ∧ t.ring.statusLast = s.ring.statusLast) ∧
  (s.ring.roleTurn = false ∨ (¬ ∃ n ∈ t.ring.nodes, n.wantsRole) → t.ring.roleLast = s.ring.roleLast ∧
    ((¬ ∃ n ∈ t.ring.nodes, n.found) → service = [] ∧ t.ring.statusLast = s.ring.statusLast) ∧
    ((∃ n ∈ t.ring.nodes, n.found) →
      ∃ i n, nextInTurn t.ring.nodes Node.found s.ring.statusLast i ∧ t.ring.nodes[i]? = some n ∧
        service = [n.service false] ∧ t.ring.statusLast = some i))

/-- What a side sends in discovery: in step 1 the 16 positions of its lowest group not complete (R134); in step 2 the removal until
it has come back, then one order for each role still to give, up to 16 parcels (R136, log 14). -/
def Discovery.sends (d : Discovery) (id : PortId) : List Parcel :=
  match d.table with
  | none =>
    match [0, 1, 2, 3].find? (fun g => !(d.side id).groups.contains g) with
    | some g => ofRecords 16 fun k => { kind := 0x01, mode := 1, address := 16 * g + 1 + k, data := unitBytes 3 }
    | none => []
  | some table =>
    let removal : List Parcel := if (d.side id).removed then [] else [{ kind := 0x02, mode := 4, address := 0, data := [0x00] }]
    removal ++ (((d.side id).todo.take (16 - removal.length)).filterMap fun i => table.find? (fun n => n.identity == i)).map
      fun n => { kind := 0x02, mode := 2, address := n.identity
                 data := match n.role with
                   | some r => [u8 r.kind.code, u8 r.index]
                   | none => [0x00, 0x00] }

/-! ## The row of a request (10.3) -/

/-- The row of a SECTION_ORDER body: section, verb. -/
def sectionOrderRow (tag : Byte) : List Byte → Option Instr
  | [n, v] =>
    match v.toNat with
    | 1 => some (.energise tag [n])
    | 2 => some (.deEnergise tag [n])
    | 3 => some (.isolate tag [n])
    | 4 => some (.restore tag [n])
    | 5 => some (.release tag [n])
    | _ => none
  | _ => none

/-- The row of a SWITCH_ORDER body: switch, verb, leg. -/
def switchOrderRow (tag : Byte) : List Byte → Option Instr
  | [n, v, l] =>
    match v.toNat with
    | 1 => some (.pin tag [n, l])
    | 2 => some (.unpin tag [n, l])
    | 3 => some (.switchRestore tag [n, l])
    | 4 => some (.holdOn tag [n, l])
    | 5 => some (.holdOff tag [n, l])
    | 6 => some (.clearQueue tag [n, l])
    | _ => none
  | _ => none

/-- The row of a RING_ORDER body: verb, port, mode. -/
def ringOrderRow (tag : Byte) : List Byte → Option Instr
  | [v, p, m] =>
    match v.toNat with
    | 1 => some (.setMode tag [p, m])
    | 2 => some (.reopen tag [p, m])
    | 3 => some (.restart tag [p, m])
    | _ => none
  | _ => none

/-- The row of a CLEAR_CONDITION body: kind FFh and a subject is CLEAR_CONDITION ALL. -/
def clearConditionRow (tag : Byte) : List Byte → Instr
  | [k, lo, hi] => if k = 0xFF then .clearConditionAll tag [lo, hi] else .clearCondition tag [k, lo, hi]
  | body => .clearCondition tag body

/-- The row that a request frame calls for, by its kind, its verb byte and its arguments (10.3); UNKNOWN_KIND for a kind that is
no request kind; none for an order whose body has no verb byte in its place or a verb that names no row. -/
def Request.row (r : Request) : Option Instr :=
  match r.kind.toNat with
  | 0x01 => some (.identify r.tag r.body)
  | 0x02 => some (.ping r.tag r.body)
  | 0x03 => some (.getLinkStatus r.tag r.body)
  | 0x10 => some (.getSection r.tag r.body)
  | 0x11 => sectionOrderRow r.tag r.body
  | 0x12 => some (.getFeeder r.tag r.body)
  | 0x13 => some (.getTrip r.tag r.body)
  | 0x18 => some (.setProtection r.tag r.body)
  | 0x20 => some (.getSwitch r.tag r.body)
  | 0x21 => switchOrderRow r.tag r.body
  | 0x22 => some (.addRequest r.tag r.body)
  | 0x28 => some (.getVehicle r.tag r.body)
  | 0x29 => some (.listVehicles r.tag r.body)
  | 0x2A => some (.clearVehicleFault r.tag r.body)
  | 0x2B => some (.forgetVehicle r.tag r.body)
  | 0x30 => some (.getConditions r.tag r.body)
  | 0x31 => some (clearConditionRow r.tag r.body)
  | 0x32 => some (.setEnables r.tag r.body)
  | 0x38 => some (.getRing r.tag r.body)
  | 0x39 => some (.getNode r.tag r.body)
  | 0x3A => ringOrderRow r.tag r.body
  | 0x40 => some (.readPage r.tag r.body)
  | 0x41 => some (.writePage r.tag r.body)
  | 0x42 => some (.eraseMap r.tag r.body)
  | 0x43 => some (.applyMap r.tag r.body)
  | _ => some (.unknownKind r.kind r.tag r.body)

end Sys2Proof.Machine
end

