-- ==== Sys2Proof/Certificates/Slice0/Obligations.lean ====
section
/-! DEFINITION. The statements for the provers. -/

open Sys2Proof Sys2Proof.Machine

/-! ## The step, and what every command leaves alone -/

/-- A step takes the command at the front of the queue and runs it with the queue's rest. -/
def Obligations.StepTakesFrontCommand : Prop :=
  ∀ (c : Instr) (rest : List Instr) (s : State), s.pending = c :: rest → step s = exec c { s with pending := rest }

/-- What a step does on an empty queue. R161: a reply that waits enters a free slot at once, and the head request starts at once when
no other is being carried out: that command is queued, and the part time and everything else stay (that no part time passes meanwhile
is the model's choice, log 1). Where neither can go on (a reply with no free slot, a store operation that is not finished, no
request), the model's choice (log 1): 500 us pass, and the queue is then dueEvents of the state so advanced: the ring period first,
then every expiry and end due at the new time (never FRAME_SENT and INTER_CHARACTER_GAP, which come from outside: the model's
choices, logs 8 and 60); nothing else changes, and two such steps are one millisecond of part time. -/
def Obligations.EmptyQueueLetsTimePass : Prop :=
  (∀ s : State, s.pending = [] → ∀ (kind tag : Byte) (body : List Byte), s.link.serving = some (.reply kind tag body) →
    s.link.replySlotFree = true → step s = .next { s with pending := [.replyEntersSlot] }) ∧
  (∀ s : State, s.pending = [] → s.link.serving = none → s.link.inbound ≠ [] →
    step s = .next { s with pending := [.requestStart] }) ∧
  (∀ s : State, s.pending = [] →
    (match s.link.serving with
      | some (.reply _ _ _) => s.link.replySlotFree = false
      | some (.store _ _) => True
      | none => s.link.inbound = []) →
    step s = .next { s with time := s.time.advance, pending := dueEvents { s with time := s.time.advance } }) ∧
  (∀ s : State, (dueEvents s).head? = some (.ringPeriod [])) ∧
  ∀ t : TimeBase, t.advance.advance.now = t.now + 1 ∧ t.advance.advance.half = t.half

/-- Every command answers a next state, and none touches the queue of waiting commands. Both are the model's choices: that no
command stops, one the spec gives no effect in a state leaving the state as it is (log 46), and that RESET too keeps the queue
(log 41). -/
def Obligations.EveryCommandAnswers : Prop :=
  ∀ (c : Instr) (s : State), ∃ t, exec c s = .next t ∧ t.pending = s.pending

/-- Part time moves by no command but RESET (that a command takes no part time is the model's choice, log 1); the installed map
changes by RESET and APPLY_MAP alone; the store by RESET and its own commands alone (a queued request counts as what it is). -/
def Obligations.CommandsKeepTheirBounds : Prop :=
  ∀ (c : Instr) (s t : State), exec c s = .next t →
    (¬ isReset c → t.time = s.time) ∧ (¬ mayInstall c → t.map = s.map) ∧ (¬ mayStore c → t.store = s.store)

/-- R160, R163, R164: every step keeps the inbound queue within 4 frames, the replies within 4 slots, the notices within 16
and the link counters within 65535. -/
def Obligations.StepKeepsLinkBounds : Prop :=
  ∀ s t : State, step s = .next t → s.link.ok → t.link.ok

/-- R144, R150: every step keeps at most 48 ordinary entries without repeats, and the ATTENTION line asserted exactly while an
entry of an enabled kind is held. -/
def Obligations.StepKeepsConditionSet : Prop :=
  ∀ s t : State, step s = .next t → s.cond.ok → t.cond.ok

/-- R166: every step keeps the store's canonical form and every byte of an ERASED page at FFh. -/
def Obligations.StepKeepsErasedPagesBlank : Prop :=
  ∀ s t : State, step s = .next t → s.store.ok → t.store.ok

/-- R56, R100, R101, R176: every step keeps at most 8 trip records, 64 vehicle records and 4 fault entries each; while no map is
installed, its version is 0. -/
def Obligations.StepKeepsTableBounds : Prop :=
  ∀ s t : State, step s = .next t → s.tablesOk → t.tablesOk

/-- R3: every step keeps one record for each section, and the destination, the lock reason, the closing origin, the times and
the two flags present in the states R3 gives them, and in no other. -/
def Obligations.StepKeepsSectionRecords : Prop :=
  ∀ s t : State, step s = .next t → s.sectionsOk → t.sectionsOk

/-- R58, R63, R71: every step keeps each section's reclose attempts within its R_max, a window open wherever a reclose is on its
way, and every section of a test queue in TESTING. -/
def Obligations.StepKeepsRecloseLimit : Prop :=
  ∀ s t : State, step s = .next t → s.sectionsOk → s.recloseOk → t.recloseOk

/-- R29, R31, R33: every step keeps in each discrimination context the limit within 6000 A, sat within 2, miss within 255, at most
16 samples, I_prev and every sample within 6000 A of zero, a latched context IDLE, one that is not ARMED without rise and runs,
and an IDLE one without figures. The bounds R29 gives to k, ov and n_rise are not stated here. -/
def Obligations.StepKeepsContexts : Prop :=
  ∀ s t : State, step s = .next t → (∀ c ∈ s.prot, c.ok) → ∀ c ∈ t.prot, c.ok

/-- R73, R84, R87, R95: every step keeps each switch record whole; a switch point in MOVING has an empty zone and a LIVE supply
section, and one that is not SET shows STOP. -/
def Obligations.StepKeepsSwitchRecords : Prop :=
  ∀ s t : State, step s = .next t → s.switchesOk → t.switchesOk

/-- R77, R82: after every step each request of a switch queue still names a vehicle whose record is IN_SIGHT. -/
def Obligations.StepKeepsRequestsInSight : Prop :=
  ∀ s t : State, step s = .next t → s.requestsInSight → t.requestsInSight

/-- R127, R138, R139: every step keeps the dark run within 20 and the port counts within 65535, and a discovery running exactly
in STARTING. -/
def Obligations.StepKeepsRing : Prop :=
  ∀ s t : State, step s = .next t → s.ring.ok → t.ring.ok

/-- The state after reset meets every invariant. -/
def Obligations.ResetMeetsInvariants : Prop :=
  State.reset.ok

/-- R176. With an erased map: empty tables, both ports in AUTO, ALARM and WARNING kinds enabled and INFO kinds not, the silence
timer started at part time 0, MAP_INVALID raised with its notice and ATTENTION, discovery running; the pages stay. With a valid
map: its version and one record for each of its records, whose numbers, sections, node identities, settings, test channels, legs
and approach switches are the map's bytes at their offsets, as are the routes, the map's nodes, the times, the port modes and the
enables (State.holdsMap); every section UNSETTLED with nothing kept of its past, adoption waiting for discovery, every feeder,
context, test unit, switch point and beacon as R6, R29, R63, R74 and R102 start it, no vehicle and no trip record, no condition. With a store operation running: the
first bytes of a cut page write, at most 255 of them, hold the data, and nothing else of the store changed; a cut erase leaves
each byte of pages 1 to 63 as it was or FFh and page 0 as it was; the marks stay; no map is installed, MAP_INVALID is raised, and
the store holds no valid map (R166). The model's choices in this: a port shows the number 255 before its first telegram (log 13);
the queue of waiting commands outlives RESET (log 41); how far a cut operation came, and where the map is then at fault, are free
values (log 10). -/
def Obligations.ResetOfAnErasedMap : Prop :=
  (∀ (fast a b : Bool) (s : State), s.store.busy = none → s.store.written = [] →
    ∃ t, exec (.reset fast a b) s = .next t ∧
      t.pending = s.pending ∧ t.time.now = 0 ∧ t.time.half = false ∧ t.map.valid = false ∧ t.map.version = 0 ∧ t.sec = {} ∧
      t.prot = [] ∧ t.switches = [] ∧ t.reg = {} ∧ t.map.routes = [] ∧
      t.ring = { a := { linkUp := a, mode := .auto }, b := { linkUp := b, mode := .auto }, discovery := some {} } ∧
      t.ring.state = .starting ∧ t.cond.silence = some 0 ∧ t.map.tSilence = 10 ∧
      t.cond.enables = List.replicate 19 true ++ List.replicate 5 false ∧ t.cond.attention = true ∧ t.cond.overflow = none ∧
      t.cond.entries = [{ kind := .mapInvalid, subject := 0, first := { t := 0 }, last := { t := 0 }, count := 1,
                          cause := some .holding }] ∧
      t.link = { fast := fast, outbound := [{ notice := true, kind := 0x70, tag := 0, body := [19, 0, 0, 0, 0, 0, 0] }] } ∧
      t.store = s.store) ∧
  (∀ (fast a b : Bool) (s : State), s.store.busy = none → mapFault s.store = none →
    let mem := s.store.mem
    let glob := 14 + 9 * mapByte mem 4 + 20 * mapByte mem 5 + 7 * mapByte mem 6 + 6 * mapByte mem 7 + 8 * mapByte mem 8 +
      4 * mapWord mem 9
    ∃ t, exec (.reset fast a b) s = .next t ∧ t.pending = s.pending ∧ t.draws = s.draws ∧ t.time.now = 0 ∧
      t.time.half = false ∧ t.store = s.store ∧ t.holdsMap mem ∧ t.map.valid = true ∧ t.map.version = mapWord mem 2 ∧
      t.map.tHold = mapWord mem glob ∧ t.map.tReq = mapWord mem (glob + 2) ∧ t.map.tSight = mapWord mem (glob + 4) ∧
      t.map.tSilence = mapByte mem (glob + 6) ∧ t.map.routes.length = mapWord mem 9 ∧
      t.sec.emergency = false ∧ t.sec.adoption = .waiting ∧ t.sec.trips = [] ∧ t.sec.sections.length = mapByte mem 4 ∧
      (∀ x ∈ t.sec.sections, x = { number := x.number, state := .unsettled, feeders := x.feeders, test := x.test,
                                   settings := x.settings }) ∧
      t.sec.feeders.length = mapByte mem 5 ∧
      (∀ f ∈ t.sec.feeders, f = { number := f.number, sect := f.sect, node := f.node }) ∧
      t.sec.testUnits.length = mapByte mem 8 ∧
      (∀ u ∈ t.sec.testUnits, u = { number := u.number, node := u.node, rTest := u.rTest }) ∧
      t.prot.length = mapByte mem 5 ∧ (∀ c ∈ t.prot, c = { number := c.number, settings := c.settings }) ∧
      t.switches.length = mapByte mem 6 ∧
      (∀ w ∈ t.switches, w = { number := w.number, node := w.node, supply := w.supply, defaultLeg := w.defaultLeg,
                               tThrow := w.tThrow, hold := w.hold }) ∧
      t.reg.vehicles = [] ∧ t.reg.beacons.length = mapByte mem 7 ∧
      (∀ x ∈ t.reg.beacons, x = { number := x.number, node := x.node, sect := x.sect, approach := x.approach }) ∧
      t.ring = { a := { linkUp := a, mode := modeOf (mapByte mem (glob + 7)) }
                 b := { linkUp := b, mode := modeOf (mapByte mem (glob + 8)) }, discovery := some {} } ∧
      t.cond = { enables := (List.range 24).map (fun i => decide (mapByte mem (glob + 9 + i) = 1))
                 silence := if mapByte mem (glob + 6) = 0 then none else some 0 } ∧
      t.link = { fast := fast }) ∧
  (∀ (fast a b : Bool) (s : State), s.store.ok → s.store.busy.isSome = true →
    ∃ t, exec (.reset fast a b) s = .next t ∧ t.pending = s.pending ∧ t.store.busy = none ∧
      t.store.written = s.store.written ∧ mapFault t.store ≠ none ∧ t.map.valid = false ∧ t.sec = {} ∧ t.prot = [] ∧
      t.switches = [] ∧ t.reg = {} ∧ t.cond.entries.map (fun e => (e.kind, e.subject)) = [(.mapInvalid, 0)] ∧
      (∀ page data start, s.store.busy = some (.write page data start) → ∃ k, k < 256 ∧
        readBytes t.store.mem (256 * page) k = data.take k ∧
        ∀ o, o < 256 * page ∨ 256 * page + k ≤ o → readByte t.store.mem o = readByte s.store.mem o) ∧
      (∀ start, s.store.busy = some (.erase start) →
        (∀ o, o < 256 → readByte t.store.mem o = readByte s.store.mem o) ∧
        ∀ o, 256 ≤ o → readByte t.store.mem o = readByte s.store.mem o ∨ readByte t.store.mem o = 0xFF))

/-! ## The control link -/

/-- R165: IDENTIFY answers OK with the 256 bytes of page 0 and PING with part time, whatever else the state holds; any other
body is answered BAD_LENGTH; nothing else changes. -/
def Obligations.IdentifyAndPing : Prop :=
  ∀ (tag : Byte) (s : State), s.ready = true →
    exec (.identify tag []) s = .next (s.replied 0x01 tag (0x00 :: readBytes s.store.mem 0 256)) ∧
    exec (.ping tag []) s = .next (s.replied 0x02 tag (0x00 :: le32 s.time.now.toNat)) ∧
    (∀ args, args ≠ [] → exec (.identify tag args) s = .next (s.replied 0x01 tag [0x02])) ∧
    (∀ args, args ≠ [] → exec (.ping tag args) s = .next (s.replied 0x02 tag [0x02]))

/-- R162, R164: GET_LINK_STATUS answers the rate and both counters and sets both to 0; with a body it answers BAD_LENGTH and keeps
them. A request whose kind is none of the 25 request kinds is answered UNKNOWN_KIND, and nothing else changes. -/
def Obligations.LinkStatusAndUnknownKind : Prop :=
  (∀ (tag : Byte) (s : State), s.ready = true →
     exec (.getLinkStatus tag []) s = .next { s with link := { s.link with
       discards := 0, breaks := 0
       outbound := s.link.outbound ++ [{ notice := false, kind := 0x83, tag := tag, body :=
         0x00 :: (if s.link.fast then 1 else 0) :: (le16 s.link.discards ++ le16 s.link.breaks) }] } } ∧
     (∀ args, args ≠ [] → exec (.getLinkStatus tag args) s = .next (s.replied 0x03 tag [0x02]))) ∧
  (∀ (kind tag : Byte) (body : List Byte) (s : State), s.ready = true → kind ∉ requestKinds →
     exec (.unknownKind kind tag body) s = .next (s.replied kind tag [0x01]))

/-- R161: REQUEST_START carries out the head request as the command of its own row does, whatever its kind, its verb and its
arguments (10.3): so for each of the 25 kinds, and for any other kind as UNKNOWN_KIND does. A SECTION_ORDER, SWITCH_ORDER or
RING_ORDER whose body is not of its length is answered BAD_LENGTH, and one whose verb names no row OUT_OF_RANGE. The command
completes whenever no other request is being carried out and the queue is not empty: the request has left the queue, and its reply
stands last in the sending order, or waits at the head when no reply slot is free, or the store holds it until its operation
ends. It starts nothing while another request is being carried out or when none waits. -/
def Obligations.RequestStartRunsTheHead : Prop :=
  (∀ (r : Request) (rest : List Request) (s : State), s.link.serving = none → s.link.inbound = r :: rest → rest.length ≤ 3 →
    (∀ i, r.row = some i → exec .requestStart s = exec i { s with link := { s.link with inbound := rest } }) ∧
    (r.row = none → s.link.replySlotFree = true → exec .requestStart s = .next
      (({ s with link := { s.link with inbound := rest } } : State).replied r.kind r.tag
        [if r.body.length = (if r.kind = 0x11 then 2 else 3) then 0x03 else 0x02]))) ∧
  (∀ r : Request, r.row = none ↔ r.kind ∈ [0x11, 0x21, 0x3A] ∧
    (r.body.length ≠ (if r.kind = 0x11 then 2 else 3) ∨
      ∀ v, (if r.kind = 0x3A then r.body[0]? else r.body[1]?) = some v →
        v = 0 ∨ (if r.kind = 0x11 then 5 else if r.kind = 0x21 then 6 else 3) < v.toNat)) ∧
  (∀ (r : Request) (rest : List Request) (s : State), s.link.serving = none → s.link.inbound = r :: rest →
    ∃ t, exec .requestStart s = .next t ∧ t.link.inbound = rest ∧ t.pending = s.pending ∧
      (t.link.serving = some (.store r.kind r.tag) ∨
        (s.link.replySlotFree = true → t.link.serving = none ∧
          ∃ body, t.link.outbound.getLast? = some (replyFrame r.kind r.tag body)) ∧
        (s.link.replySlotFree = false → ∃ body, t.link.serving = some (.reply r.kind r.tag body)))) ∧
  (∀ s : State, s.link.serving ≠ none ∨ s.link.inbound = [] → exec .requestStart s = .next s)

/-- R161, R163: a reply that waits enters a reply slot once one is free, at the end of the sending order, and its request
leaves the head of the queue; while all four are taken it waits on. A frame that has left the line frees its slot, and the next
frame of the order is the one being sent. -/
def Obligations.RepliesEnterAndLeaveSlots : Prop :=
  (∀ (kind tag : Byte) (body : List Byte) (s : State), s.link.serving = some (.reply kind tag body) →
    (s.link.replies.length < 4 → exec .replyEntersSlot s = .next { s with link := { s.link with
      serving := none
      outbound := s.link.outbound ++ [{ notice := false, kind := kind + 0x80, tag := tag, body := body }] } }) ∧
    (4 ≤ s.link.replies.length → exec .replyEntersSlot s = .next s)) ∧
  (∀ (f : OutFrame) (rest : List OutFrame) (s : State), s.link.outbound = f :: rest →
    exec .frameSent s = .next { s with link := { s.link with outbound := rest, sent := frameBytes f.kind f.tag f.body } })

/-- R156, R157, R160: the characters of a frame built by the frame rules are taken as a valid frame whatever its kind, tag and body
of up to 480 bytes: it joins a queue with room, the parser hunts again and the silence timer is restarted. One that meets a full
queue is not queued: it is answered BUSY at once with its own kind and tag in a free reply slot, or counted as a discard when
none is free. -/
def Obligations.ValidFrameIsQueuedOrBusy : Prop :=
  (∀ (kind tag : Byte) (body : List Byte) (s : State), s.link.parser = .hunting → body.length ≤ 480 → s.link.queued < 4 →
     ∃ t, exec (.validFrame (clean (frameBytes kind tag body))) s = .next t ∧ s.sameButSwitches t ∧ t.switches = s.switches ∧
       t.link = { s.link with inbound := s.link.inbound ++ [{ kind := kind, tag := tag, body := body }] } ∧
       t.cond.silence = (if s.map.tSilence = 0 then none else some s.time.now) ∧
       t.cond.entries = s.cond.entries.map (fun e =>
         if e.kind = .autonomous ∧ e.subject = 0 then { e with cause := some .ended } else e) ∧
       t.cond.overflow = s.cond.overflow ∧ t.cond.enables = s.cond.enables ∧ t.cond.attention = s.cond.attention) ∧
  (∀ (kind tag : Byte) (body : List Byte) (s : State), s.link.parser = .hunting → body.length ≤ 480 → s.link.queued = 4 →
     ∃ t, exec (.validFrame (clean (frameBytes kind tag body))) s = .next t ∧ t.link.inbound = s.link.inbound ∧
       t.link.serving = s.link.serving ∧
       t.cond.silence = (if s.map.tSilence = 0 then none else some s.time.now) ∧
       (s.link.replies.length < 4 → t.link.discards = s.link.discards ∧
         t.link.outbound = s.link.outbound ++ [{ notice := false, kind := kind + 0x80, tag := tag, body := [0x06] }]) ∧
       (4 ≤ s.link.replies.length → t.link.outbound = s.link.outbound ∧
         t.link.discards = (if s.link.discards < 65535 then s.link.discards + 1 else 65535)))

/-- R158: a length above 480, a wrong check, a framing fault and a gap of more than 5 ms each discard the frame: the parser
hunts, the discard counter is raised, and nothing else changes. A gap does not concern a hunting parser. -/
def Obligations.DiscardedFrames : Prop :=
  ∀ s : State,
    (∀ lo hi : Byte, s.link.parser = .hunting → 480 < num16 lo hi →
      exec (.discardedFrame (clean [0xC3, lo, hi])) s = .next { s with link := { s.link with
        parser := .hunting, discards := if s.link.discards < 65535 then s.link.discards + 1 else 65535 } }) ∧
    (∀ (kind tag c0 c1 : Byte) (body : List Byte), s.link.parser = .hunting → body.length ≤ 480 →
      [c0, c1] ≠ le16 (crc16 (le16 body.length ++ kind :: tag :: body)).toNat →
      exec (.discardedFrame (clean (0xC3 :: (le16 body.length ++ kind :: tag :: (body ++ [c0, c1]))))) s =
        .next { s with link := { s.link with
          parser := .hunting, discards := if s.link.discards < 65535 then s.link.discards + 1 else 65535 } }) ∧
    (∀ (bytes : List Byte) (v : Byte), s.link.parser = .reading bytes →
      exec (.discardedFrame [{ value := v, fault := true }]) s = .next { s with link := { s.link with
        parser := .hunting, discards := if s.link.discards < 65535 then s.link.discards + 1 else 65535 } }) ∧
    (∀ bytes, s.link.parser = .reading bytes → exec (.interCharacterGap []) s = .next { s with link := { s.link with
      parser := .hunting, discards := if s.link.discards < 65535 then s.link.discards + 1 else 65535 } }) ∧
    (s.link.parser = .hunting → exec (.interCharacterGap []) s = .next s)

/-- R159: a break removes the requests not started and the notices not being sent, keeps the replies and the request being
carried out, and raises the break counter; with an empty sending order it stays empty. That the frame at
the head of the sending order is the one being sent, so that it stays even when it is a notice, is the model's choice (log 8);
that a frame which the break cuts in READING is discarded first and raises the discard counter too is read by inference (log 7). -/
def Obligations.BreakClearsTheLink : Prop :=
  ∀ s : State, exec (.lineBreak []) s = .next { s with link := { s.link with
    parser := .hunting, inbound := []
    outbound := (match s.link.outbound with
      | [] => []
      | f :: rest => f :: rest.filter (fun g => !g.notice))
    breaks := if s.link.breaks < 65535 then s.link.breaks + 1 else 65535
    discards := if s.link.parser = .hunting then s.link.discards
      else if s.link.discards < 65535 then s.link.discards + 1 else 65535 } }

/-! ## Conditions -/

/-- R145, R146, R149 to R151: a raise changes the condition set and its notices alone. An entry held counts it, up to 255, is last
raised now and, of a level kind, has its cause HOLDING; no notice is queued and the line stays. A new entry joins the end of a set
with room, with its notice if the kind is enabled and a notice slot is free, and the line is reviewed. With 48 entries the set stays
as it is: the first raise lost makes the overflow entry (CONDITION_OVERFLOW, subject 0, first and last raised now, count 1, cause
HOLDING), with its notice by its own enable, and the line is reviewed; each further one is counted into it, up to 255, sets its last
raised and, its kind being a level kind, its cause to HOLDING, queues no notice and leaves the line. -/
def Obligations.RaiseRule : Prop :=
  ∀ (k : CondKind) (n : Nat) (s : State),
    let t := raise k n s
    let noticed (e : CondEntry) : List OutFrame := if s.cond.enabled e.kind ∧ s.link.notices.length < 16 then
      [{ notice := true, kind := 0x70, tag := 0x00, body := u8 e.kind.code :: (le16 e.subject ++ le32 s.time.now.toNat) }] else []
    { t with cond := s.cond, link := s.link } = s ∧
    ((∃ e ∈ s.cond.entries, e.kind = k ∧ e.subject = n) → t.link = s.link ∧
      t.cond = { s.cond with entries := s.cond.entries.map fun e =>
        if e.kind = k ∧ e.subject = n then
          { e with
            count := if e.count < 255 then e.count + 1 else 255
            last := s.stamp
            cause := if k.isLevel then some .holding else e.cause }
        else e }) ∧
    ((∀ e ∈ s.cond.entries, ¬(e.kind = k ∧ e.subject = n)) → s.cond.entries.length < 48 →
      t.cond = { s.cond with entries := s.cond.entries ++ [s.freshEntry k n] }.review ∧
      t.link = { s.link with outbound := s.link.outbound ++ noticed (s.freshEntry k n) }) ∧
    ((∀ e ∈ s.cond.entries, ¬(e.kind = k ∧ e.subject = n)) → 48 ≤ s.cond.entries.length →
      (s.cond.overflow = none →
        let o : CondEntry := { kind := .conditionOverflow, subject := 0, first := s.stamp, last := s.stamp, count := 1
                               cause := some .holding }
        t.cond = { s.cond with overflow := some o }.review ∧
        t.link = { s.link with outbound := s.link.outbound ++ noticed o }) ∧
      ∀ old, s.cond.overflow = some old → t.link = s.link ∧
        t.cond = { s.cond with overflow := some { old with
          count := if old.count < 255 then old.count + 1 else 255
          last := s.stamp
          cause := if old.kind.isLevel then some .holding else old.cause } })

/-- R147, R148, 10.1, 10.3: a clear of an entry whose cause has ended, or of an edge kind, removes it, and the cause of
CONDITION_OVERFLOW ends when the set then holds fewer than 48; one whose cause holds comes back at the end of the set as a new
entry. A clear of the overflow entry makes it new while its cause holds and removes it otherwise, even when the set has filled again
since without a lost raise (the model's choice, log 48). The reply counts the entries, and the line is reviewed. After
CLEAR_CONDITION ALL the set holds exactly the entries whose causes held, in their old order, made new, and no overflow entry. The
row CLEAR_CONDITION with the kind byte FFh does what the row CLEAR_CONDITION ALL does with the same subject (the model's choice, log
43). A wrong length, a kind or subject out of range, an ALL with a subject other than 0 and an absent entry are refused and change
nothing. -/
def Obligations.ClearConditionRules : Prop :=
  (∀ (tag kb lo hi : Byte) (k : CondKind) (e : CondEntry) (s : State), s.ready = true → k ≠ .conditionOverflow →
     CondKind.ofCode kb.toNat = some k → num16 lo hi ≤ 9999 → s.cond.entries.find? (·.isOf k (num16 lo hi)) = some e →
     ∃ t, exec (.clearCondition tag [kb, lo, hi]) s = .next t ∧ s.sameButSwitches t ∧ t.switches = s.switches ∧
       t.cond.entries = s.cond.entries.filter (fun x => !x.isOf k (num16 lo hi)) ++
         (if e.cause = some .holding then [s.freshEntry e.kind e.subject] else []) ∧
       t.cond.overflow = (if e.cause ≠ some .holding ∧ t.cond.entries.length < 48 then
         s.cond.overflow.map (fun o => { o with cause := some .ended }) else s.cond.overflow) ∧
       t.cond.attention = t.cond.review.attention ∧
       t.link.outbound.getLast? = some (replyFrame 0x31 tag
         [0x00, u8 t.cond.entries.length, if t.cond.overflow.isSome then 1 else 0])) ∧
  (∀ (tag : Byte) (e : CondEntry) (s : State), s.ready = true → s.cond.overflow = some e →
     ∃ t, exec (.clearCondition tag [24, 0, 0]) s = .next t ∧ s.sameButSwitches t ∧ t.switches = s.switches ∧
       t.cond.entries = s.cond.entries ∧
       t.cond.overflow = (if e.cause = some .holding then some (s.freshEntry .conditionOverflow 0) else none) ∧
       t.cond.attention = t.cond.review.attention ∧
       t.link.outbound.getLast? = some (replyFrame 0x31 tag
         [0x00, u8 s.cond.entries.length, if e.cause = some .holding then 1 else 0])) ∧
  (∀ (tag : Byte) (s : State), s.ready = true →
     ∃ t, exec (.clearConditionAll tag [0, 0]) s = .next t ∧ s.sameButSwitches t ∧ t.switches = s.switches ∧
       t.cond.entries = (s.cond.entries.filter (fun e => decide (e.cause = some .holding))).map
         (fun e => s.freshEntry e.kind e.subject) ∧
       t.cond.overflow = none ∧ t.cond.enables = s.cond.enables ∧ t.cond.silence = s.cond.silence ∧
       t.link.outbound.getLast? = some (replyFrame 0x31 tag [0x00, u8 t.cond.entries.length])) ∧
  (∀ (tag kb lo hi : Byte) (s : State), s.ready = true →
     exec (.clearCondition tag [0xFF, lo, hi]) s = exec (.clearConditionAll tag [lo, hi]) s ∧
     (num16 lo hi ≠ 0 → exec (.clearConditionAll tag [lo, hi]) s = .next (s.replied 0x31 tag [0x03])) ∧
     (kb ≠ 0xFF → kb = 0 ∨ 24 < kb.toNat ∨ 9999 < num16 lo hi →
       exec (.clearCondition tag [kb, lo, hi]) s = .next (s.replied 0x31 tag [0x03])) ∧
     (∀ k, CondKind.ofCode kb.toNat = some k → num16 lo hi ≤ 9999 →
       (k ≠ .conditionOverflow → (∀ e ∈ s.cond.entries, ¬(e.kind = k ∧ e.subject = num16 lo hi)) →
         exec (.clearCondition tag [kb, lo, hi]) s = .next (s.replied 0x31 tag [0x04])) ∧
       (k = .conditionOverflow → s.cond.overflow = none ∨ num16 lo hi ≠ 0 →
         exec (.clearCondition tag [kb, lo, hi]) s = .next (s.replied 0x31 tag [0x04]))) ∧
     (∀ args, args.length ≠ 3 → exec (.clearCondition tag args) s = .next (s.replied 0x31 tag [0x02])) ∧
     (∀ args, args.length ≠ 2 → exec (.clearConditionAll tag args) s = .next (s.replied 0x31 tag [0x02])))

/-- R149, R150: 24 enables of 0 or 1 replace the old ones at once and the line is reviewed; any other value is OUT_OF_RANGE and
any other length BAD_LENGTH, and then nothing changes. -/
def Obligations.SetEnablesRule : Prop :=
  ∀ (tag : Byte) (args : List Byte) (s : State), s.ready = true →
    (args.length = 24 → (∀ b ∈ args, b = 0 ∨ b = 1) →
      ∃ t, exec (.setEnables tag args) s = .next t ∧ s.sameButSwitches t ∧ t.switches = s.switches ∧
        t.cond.enables = args.map (fun b => decide (b = 1)) ∧ t.cond.entries = s.cond.entries ∧
        t.cond.overflow = s.cond.overflow ∧ t.cond.silence = s.cond.silence ∧
        t.cond.attention = t.cond.review.attention ∧
        t.link = { s.link with outbound := s.link.outbound ++
          [replyFrame 0x32 tag (0x00 :: args)] }) ∧
    (args.length = 24 → (∃ b ∈ args, b ≠ 0 ∧ b ≠ 1) → exec (.setEnables tag args) s = .next (s.replied 0x32 tag [0x03])) ∧
    (args.length ≠ 24 → exec (.setEnables tag args) s = .next (s.replied 0x32 tag [0x02]))

/-- R98, R153, R154: the expiry of the silence timer raises AUTONOMOUS and releases every pin, PINS_RELEASED being raised when there
was one; each switch point that lost its pin makes the throw decision for its head's leg; queues, hold settings and throws under
way are not changed, and a switch point without a pin is not touched. The timer rests until the next valid frame. That a switch
point whose throw starts keeps showing its old position (log 45) and its discrepancy run (log 31) is read from the spec by
inference. -/
def Obligations.HostSilenceReleasesPins : Prop :=
  ∀ s : State, s.silenceOver = true → (s.switches.map (·.number)).Nodup →
    ∃ t, exec .hostSilenceExpiry s = .next t ∧ s.sameButSwitches t ∧ t.cond.silence = none ∧
      s.raises t .autonomous 0 ∧ s.showsHolding t .autonomous 0 ∧
      ((∃ w ∈ s.switches, w.pin.isSome = true) →
        s.raises t .pinsReleased 0) ∧
      (∀ w ∈ s.switches, w.pin = none → t.switch? w.number = some w) ∧
      ∀ w ∈ s.switches, w.pin.isSome = true → ∃ u, t.switch? w.number = some u ∧
        u = { w with pin := none, state := u.state, throw := u.throw, aspect := u.aspect, holdLong := u.holdLong } ∧
        (∀ r, w.head? = some r → w.state = .set ∧ w.zone = 0 ∧ s.supplyLive w = true ∧ w.position ≠ some r.leg →
          u.state = .moving ∧ u.throw = some { target := r.leg, start := s.time.now, seen := false } ∧ u.aspect = .stop) ∧
        ((¬ ∃ r, w.head? = some r ∧ w.state = .set ∧ w.zone = 0 ∧ s.supplyLive w = true ∧ w.position ≠ some r.leg) →
          u.state = w.state ∧ u.throw = w.throw ∧ u.aspect = w.aspectNow)

/-! ## Sections and feeders -/

/-- R24, R48, R72, 10.4: GET_SECTION and GET_FEEDER answer OK with the whole section record and its reclose and test view, and
with the whole feeder record and its protection view, and change nothing; a number out of range, one without a record and a body
of the wrong length are answered OUT_OF_RANGE, NOT_FOUND and BAD_LENGTH. -/
def Obligations.SectionAndFeederReads : Prop :=
  ∀ (tag b : Byte) (s : State), s.ready = true →
    (∀ x, 1 ≤ b.toNat → b.toNat ≤ 16 → s.section? b.toNat = some x → ∃ body,
      exec (.getSection tag [b]) s = .next (s.replied 0x10 tag (0x00 :: body)) ∧ body.length = 49 ∧
      body.take 3 = [b, u8 x.state.code, u8 x.feeders.length] ∧
      (body.drop 3).take 4 = [place x.feeders[0]?, place x.feeders[1]?, place (x.test.map (·.unit)),
        place (x.test.map (·.channel))] ∧
      (body.drop 7).take 8 = u8 x.settings.rMax :: (le16 x.settings.window ++ le16 x.settings.delay ++
        yes x.settings.blind :: le16 x.settings.rClear) ∧
      (body.drop 15).take 3 = [u8 (destinationCode x.destination), u8 (reasonCode x.shownReason), u8 (originCode x.origin)] ∧
      (body.drop 18).take 5 = optStamp x.liveSince ∧
      (body.drop 23).take 7 = u8 x.window.code :: (optStamp x.windowStart ++ [u8 x.attempts]) ∧
      (body.drop 30).take 5 = optTime x.delayExpiry ∧ (body.drop 38).take 1 = [u8 x.testsUsed] ∧
      (∀ c u, x.state = .testing → x.test = some c → s.testUnit? c.unit = some u → (body.drop 35).take 3 =
        [place ((indexWhere (fun n => n == b.toNat) u.queue).map (· + 1)), u8 u.phase.code, u.testNumber]) ∧
      (x.state ≠ .testing → (body.drop 35).take 3 = [0, 0xFF, 0xFF]) ∧
      (body.drop 39).take 7 = resultBytes x.lastTest ∧
      body.drop 46 = [yes x.cancel, yes x.stop, u8 (s.vehicleCount b.toNat)]) ∧
    (∀ f c, 1 ≤ b.toNat → b.toNat ≤ 24 → s.feeder? b.toNat = some f → s.context? b.toNat = some c → ∃ body,
      exec (.getFeeder tag [b]) s = .next (s.replied 0x12 tag (0x00 :: body)) ∧ body.length = 79 ∧
      body.take 7 = b :: u8 f.sect :: (le16 f.node ++ u8 f.breaker.code :: value16 (f.ownRelease.map (·.toNat))) ∧
      (body.drop 7).take 8 = u8 f.order.code :: (optStamp f.orderStart ++ [u8 f.health.code, yes f.latch]) ∧
      (body.drop 15).take 16 = protectionBytes c.settings ∧ (body.drop 31).take 2 = [u8 c.status.code, yes c.rising] ∧
      (body.drop 33).take 10 = current16 c.iPrev ++ value16 c.vLast ++
        u8 c.k :: (le16 c.limit ++ u8 c.nRise :: leSigned c.peak) ∧
      (body.drop 43).take 4 = le16 c.ov ++ [u8 c.sat, u8 c.miss] ∧ body.drop 47 = samplesBytes c.buffer) ∧
    (b.toNat = 0 ∨ 16 < b.toNat → exec (.getSection tag [b]) s = .next (s.replied 0x10 tag [0x03])) ∧
    (b.toNat = 0 ∨ 24 < b.toNat → exec (.getFeeder tag [b]) s = .next (s.replied 0x12 tag [0x03])) ∧
    (1 ≤ b.toNat → b.toNat ≤ 16 → s.section? b.toNat = none →
      exec (.getSection tag [b]) s = .next (s.replied 0x10 tag [0x04])) ∧
    (1 ≤ b.toNat → b.toNat ≤ 24 → s.feeder? b.toNat = none →
      exec (.getFeeder tag [b]) s = .next (s.replied 0x12 tag [0x04])) ∧
    (∀ args, args.length ≠ 1 → exec (.getSection tag args) s = .next (s.replied 0x10 tag [0x02]) ∧
      exec (.getFeeder tag args) s = .next (s.replied 0x12 tag [0x02]))

/-- R19 to R21: ENERGISE and DE_ENERGISE where the section's state refuses them, or accepts them without a change: the code, then
the record as it stands, and nothing else changes. BUSY carries its code alone: so R162, while R19 has the record follow; the
model goes by R162 (log 25). -/
def Obligations.SectionOrdersWithoutEffect : Prop :=
  ∀ (tag b : Byte) (x : Section) (s : State), s.ready = true → 1 ≤ b.toNat → b.toNat ≤ 16 → s.section? b.toNat = some x →
    let answers (code : Byte) : Host.Outcome State Fault Refusal := .next (s.replied 0x11 tag (code :: sectionRecord s x))
    (s.sec.emergency = true → exec (.energise tag [b]) s = answers 0x07) ∧
    (s.sec.emergency = false → x.state = .closing ∨ x.state = .live → exec (.energise tag [b]) s = answers 0x00) ∧
    (s.sec.emergency = false → x.state = .dead → (∃ f ∈ x.feeders, ∀ g, s.feeder? f = some g → s.nodePresent g.node = false) →
      exec (.energise tag [b]) s = answers 0x05) ∧
    (s.sec.emergency = false → x.state ∉ [.dead, .closing, .live, .unsettled] → exec (.energise tag [b]) s = answers 0x05) ∧
    (s.sec.emergency = false → x.state = .unsettled → exec (.energise tag [b]) s = .next (s.replied 0x11 tag [0x06])) ∧
    (x.state ∈ [.dead, .isolated, .lockedOut, .opening] → exec (.deEnergise tag [b]) s = answers 0x00) ∧
    (x.state = .testing → x.stop = true → exec (.deEnergise tag [b]) s = answers 0x00) ∧
    (x.state = .unsettled → exec (.deEnergise tag [b]) s = .next (s.replied 0x11 tag [0x06]))

/-- R10, R20, R32: ENERGISE of a DEAD section whose feeders' nodes are all PRESENT, with the emergency input released: CLOSING
with origin ENERGISE; every feeder of it gets CLOSE from now, loses its latch and FAIL_TO_CLOSE, and its context is armed unless
it was not IDLE; no other section, feeder or context, no trip record, switch point, vehicle, node or condition changes. -/
def Obligations.EnergiseClosesSection : Prop :=
  ∀ (tag b : Byte) (x : Section) (s : State), s.ready = true → 1 ≤ b.toNat → b.toNat ≤ 16 → s.section? b.toNat = some x →
    x.state = .dead → s.sec.emergency = false → s.nodesPresent x = true →
    ∃ t y, exec (.energise tag [b]) s = .next t ∧ s.sameBase t ∧ t.section? b.toNat = some y ∧ s.otherSections t b.toNat ∧
      y = { x.plain .closing with origin := some .energise, closingSince := some s.time.now } ∧
      (∀ f ∈ x.feeders, ∀ g, s.feeder? f = some g → t.feeder? f = some { g with
        order := .close, orderStart := some s.stamp, confirming := false, latch := false
        health := if g.health = .failToClose then .ok else g.health }) ∧
      (∀ f, f ∉ x.feeders → t.feeder? f = s.feeder? f ∧ t.context? f = s.context? f) ∧
      (∀ f ∈ x.feeders, ∀ c, s.context? f = some c → t.context? f = some
        (if c.status = .idle then { c with latch := false, status := .armed, rising := false, ov := 0, sat := 0 }
          else { c with latch := false })) ∧
      t.sec.trips = s.sec.trips ∧ t.sec.testUnits = s.sec.testUnits ∧ t.sec.emergency = s.sec.emergency ∧
      t.sec.adoption = s.sec.adoption ∧ t.switches = s.switches ∧ t.reg = s.reg ∧ t.ring = s.ring ∧ t.cond = s.cond ∧
      t.link = { s.link with outbound := s.link.outbound ++ [replyFrame 0x11 tag (0x00 :: sectionRecord t y)] }

/-- R12, R21, R64, R67: DE_ENERGISE by state: LIVE and CLOSING open to DEAD with OPEN on every feeder; TRIPPED is redirected to DEAD
with its cancel flag set; RECLOSE_WAIT is DEAD at once, its window kept and its running records CANCELLED. A section in TESTING
at the head of its unit's queue has its test stopped; one that waits leaves the queue and is DEAD at once. -/
def Obligations.DeEnergiseByState : Prop :=
  (∀ (tag b : Byte) (x : Section) (s : State), s.ready = true → 1 ≤ b.toNat → b.toNat ≤ 16 → s.section? b.toNat = some x →
     (x.state = .live ∨ x.state = .closing → ∃ t y, exec (.deEnergise tag [b]) s = .next t ∧ s.sameBase t ∧
       t.section? b.toNat = some y ∧ s.otherSections t b.toNat ∧ y = { x.plain .opening with destination := some .dead } ∧
       (∀ f ∈ x.feeders, ∀ g, s.feeder? f = some g → t.feeder? f = some
         (if g.order = .opens then g else { g with order := .opens, orderStart := some s.stamp, confirming := true })) ∧
       (∀ f, f ∉ x.feeders → t.feeder? f = s.feeder? f) ∧
       (x.state = .live → ∀ w ∈ t.switches, w.supply = b.toNat → w.state ≠ .moving) ∧
       t.sec.trips = s.sec.trips ∧ t.reg = s.reg ∧ t.ring = s.ring ∧
       t.link.outbound.getLast? = some (replyFrame 0x11 tag (0x00 :: sectionRecord t y))) ∧
     (x.state = .tripped → exec (.deEnergise tag [b]) s = .next
       ((s.modSection b.toNat fun y => { y with cancel := true, destination := some .dead }).replied 0x11 tag
         (0x00 :: sectionRecord s { x with cancel := true, destination := some .dead }))) ∧
     (x.state = .recloseWait → ∃ t, exec (.deEnergise tag [b]) s = .next t ∧ s.sameBase t ∧
       t.section? b.toNat = some (x.plain .dead) ∧ s.otherSections t b.toNat ∧ t.sec.feeders = s.sec.feeders ∧
       t.sec.trips = s.sec.trips.map (·.cancelledFor b.toNat) ∧ t.switches = s.switches ∧ t.reg = s.reg ∧ t.ring = s.ring ∧
       t.link.outbound = s.link.outbound ++ [replyFrame 0x11 tag (0x00 :: sectionRecord t (x.plain .dead))])) ∧
  (∀ (tag b : Byte) (x : Section) (c : TestChannel) (u : TestUnit) (s : State), s.ready = true → 1 ≤ b.toNat →
     b.toNat ≤ 16 → s.section? b.toNat = some x → x.state = .testing → x.stop = false → x.test = some c →
     s.testUnit? c.unit = some u →
     (u.queue.head? = some b.toNat →
       let t := (s.modSection b.toNat fun y => { y with stop := true }).modTestUnit c.unit fun v => { v with phase := .stopping }
       exec (.deEnergise tag [b]) s = .next (t.replied 0x11 tag (0x00 :: sectionRecord t { x with stop := true }))) ∧
     (u.queue.head? ≠ some b.toNat → ∃ t, exec (.deEnergise tag [b]) s = .next t ∧ s.sameBase t ∧
       t.section? b.toNat = some (x.plain .dead) ∧ s.otherSections t b.toNat ∧
       t.testUnit? c.unit = some { u with queue := u.queue.filter (fun n => n != b.toNat) } ∧
       t.sec.feeders = s.sec.feeders ∧ t.sec.trips = s.sec.trips.map (·.cancelledFor b.toNat) ∧ t.switches = s.switches ∧
       t.reg = s.reg ∧ t.ring = s.ring))

/-- R22, R23: ISOLATE from DEAD or LOCKED_OUT, RESTORE from ISOLATED and RELEASE from LOCKED_OUT: the section's new record; the
OPEN orders that ISOLATE ends; the running records that an entry into DEAD cancels; the end of the LOCKOUT cause. In every other
state each of the three is REFUSED_STATE with the record as it stands, and nothing else changes. -/
def Obligations.IsolateRestoreRelease : Prop :=
  ∀ (tag b : Byte) (x : Section) (s : State), s.ready = true → 1 ≤ b.toNat → b.toNat ≤ 16 → s.section? b.toNat = some x →
    (x.state = .dead ∨ x.state = .lockedOut → ∃ t y, exec (.isolate tag [b]) s = .next t ∧ s.sameBase t ∧
      t.section? b.toNat = some y ∧ s.otherSections t b.toNat ∧
      y = { x.plain .isolated with window := .closed, windowStart := none, attempts := 0, testsUsed := 0 } ∧
      (∀ f ∈ x.feeders, ∀ g, s.feeder? f = some g → t.feeder? f = some
        (if g.order = .opens then { g with order := .idle, orderStart := none, confirming := false } else g)) ∧
      (∀ f, f ∉ x.feeders → t.feeder? f = s.feeder? f) ∧ t.sec.trips = s.sec.trips ∧ t.switches = s.switches ∧
      t.reg = s.reg ∧ t.ring = s.ring ∧ s.cond.sameButCauses t.cond ∧
      (x.state = .lockedOut → ∀ e ∈ t.cond.entries, e.kind = .lockout → e.subject = b.toNat → e.cause = some .ended) ∧
      t.link.outbound = s.link.outbound ++ [replyFrame 0x11 tag (0x00 :: sectionRecord t y)]) ∧
    (x.state = .isolated → ∃ t, exec (.restore tag [b]) s = .next t ∧ s.sameBase t ∧
      t.section? b.toNat = some (x.plain .dead) ∧ s.otherSections t b.toNat ∧ t.sec.feeders = s.sec.feeders ∧
      t.sec.trips = s.sec.trips.map (·.cancelledFor b.toNat) ∧ t.switches = s.switches ∧ t.reg = s.reg ∧ t.ring = s.ring ∧
      s.cond.sameButCauses t.cond ∧
      t.link.outbound = s.link.outbound ++ [replyFrame 0x11 tag (0x00 :: sectionRecord t (x.plain .dead))]) ∧
    (x.state = .lockedOut → ∃ t y, exec (.release tag [b]) s = .next t ∧ s.sameBase t ∧
      t.section? b.toNat = some y ∧ s.otherSections t b.toNat ∧
      y = { x.plain .dead with window := .closed, windowStart := none, attempts := 0, testsUsed := 0 } ∧
      t.sec.feeders = s.sec.feeders ∧ t.sec.trips = s.sec.trips.map (·.cancelledFor b.toNat) ∧ t.switches = s.switches ∧
      t.reg = s.reg ∧ t.ring = s.ring ∧ s.cond.sameButCauses t.cond ∧
      (∀ e ∈ t.cond.entries, e.kind = .lockout → e.subject = b.toNat → e.cause = some .ended) ∧
      t.link.outbound = s.link.outbound ++ [replyFrame 0x11 tag (0x00 :: sectionRecord t y)]) ∧
    (x.state ≠ .dead → x.state ≠ .lockedOut →
      exec (.isolate tag [b]) s = .next (s.replied 0x11 tag (0x05 :: sectionRecord s x))) ∧
    (x.state ≠ .isolated → exec (.restore tag [b]) s = .next (s.replied 0x11 tag (0x05 :: sectionRecord s x))) ∧
    (x.state ≠ .lockedOut → exec (.release tag [b]) s = .next (s.replied 0x11 tag (0x05 :: sectionRecord s x)))

/-- R25, R26: at the assertion of the emergency input EMERGENCY is raised and every section is handled by its state; the release
changes the input and the cause of EMERGENCY, and nothing else. That a second assertion changes nothing is the model's choice
(log 36): the rules speak of the change of level alone. -/
def Obligations.EmergencyInput : Prop :=
  (∀ s : State, s.sec.emergency = false → (s.sec.sections.map (·.number)).Nodup →
    ∃ t, exec .emergencyAsserted s = .next t ∧ s.sameBase t ∧ t.sec.emergency = true ∧ s.showsHolding t .emergency 0 ∧
      t.reg = s.reg ∧ t.ring = s.ring ∧ t.sec.sections.map (·.number) = s.sec.sections.map (·.number) ∧
      ∀ x ∈ s.sec.sections, ∃ y, t.section? x.number = some y ∧
        (x.state = .live ∨ x.state = .closing → y = { x.plain .opening with destination := some .dead } ∧
          ∀ f ∈ x.feeders, ∀ g, t.feeder? f = some g → g.order = .opens) ∧
        (x.state = .tripped → y = { x with cancel := true, destination := some .dead }) ∧
        (x.state = .recloseWait → y = x.plain .dead) ∧
        (x.state = .testing → x.stop = true → y = x) ∧
        (∀ u, x.state = .testing → x.stop = false → x.test.bind (fun c => s.testUnit? c.unit) = some u →
          if u.queue.head? = some x.number then y = { x with stop := true } else y = x.plain .dead) ∧
        (x.state ∈ [.opening, .unsettled, .isolated, .dead, .lockedOut] → y = x)) ∧
  (∀ s : State, s.sec.emergency = true → exec .emergencyAsserted s = .next s ∧
    exec .emergencyReleased s = .next { s with
      sec := { s.sec with emergency := false }
      cond := { s.cond with entries := s.cond.entries.map fun e =>
        if e.kind = .emergency ∧ e.subject = 0 then { e with cause := some .ended } else e } })

/-! ## Trip records and protection settings -/

/-- R57: GET_TRIP by index or OLDEST_UNREAD answers the whole record as 10.4 lays it out and marks it READ; an index above the
records, no UNREAD record, a which outside its range and a body of the wrong length are refused and change nothing. -/
def Obligations.GetTripMarksRead : Prop :=
  ∀ (tag w : Byte) (s : State), s.ready = true →
    (∀ (i : Nat) (r : TripRecord), s.sec.trips[i]? = some r →
      (w.toNat = i + 1 ∧ i < 8) ∨
        (w = 0xFF ∧ r.read = false ∧ ∀ j, j < i → ∀ q, s.sec.trips[j]? = some q → q.read = true) →
      ∃ body, exec (.getTrip tag [w]) s = .next
        (({ s with sec := { s.sec with trips := s.sec.trips.set i { r with read := true } } } : State).replied 0x13 tag
          (0x00 :: body)) ∧
      body.length = 71 ∧
      body.take 9 = u8 (i + 1) :: 1 :: (le32 r.time.t.toNat ++ [u8 r.sect, u8 r.feeder, u8 r.cause.code]) ∧
      (body.drop 9).take 13 = place (r.second.map (·.feeder)) :: u8 ((r.second.map (·.cause.code)).getD 0) ::
        (current16 r.figures.current ++ leSigned r.figures.peak ++ leSigned r.figures.deltaI ++
          u8 r.figures.k :: (le16 r.figures.limit ++ [u8 r.figures.vehicles, place r.intertripped])) ∧
      (body.drop 22).take 13 = u8 r.presentCount :: (padded 6 r.present).flatMap number16 ∧
      (body.drop 35).take 4 = number16 r.suspect ++ [u8 (outcomeCode r.outcome), u8 (reasonCode (outcomeReason r.outcome))] ∧
      body.drop 39 = samplesBytes r.figures.samples) ∧
    (1 ≤ w.toNat → w.toNat ≤ 8 → s.sec.trips.length < w.toNat →
      exec (.getTrip tag [w]) s = .next (s.replied 0x13 tag [0x04])) ∧
    (w = 0xFF → (∀ r ∈ s.sec.trips, r.read = true) → exec (.getTrip tag [w]) s = .next (s.replied 0x13 tag [0x04])) ∧
    (w.toNat = 0 ∨ (8 < w.toNat ∧ w.toNat < 255) → exec (.getTrip tag [w]) s = .next (s.replied 0x13 tag [0x03])) ∧
    (∀ args, args.length ≠ 1 → exec (.getTrip tag args) s = .next (s.replied 0x13 tag [0x02]))

/-- R30, R46: SET_PROTECTION replaces all eight settings of the feeder's context and echoes them when each lies in its range
(D_hold up to D_start, K_max from K_min); otherwise it is refused, in the order of R46, and no setting changes. -/
def Obligations.SetProtectionRule : Prop :=
  ∀ (tag b : Byte) (data : List Byte) (p : ProtectionSettings) (s : State), s.ready = true → data.length = 16 →
    data = protectionBytes p → p.dStart < 65536 → p.dHold < 65536 → p.kMin < 65536 → p.kMax < 65536 → p.lBase < 65536 →
    p.aVeh < 65536 → p.iOv < 65536 → p.nOv < 65536 →
    let good := (10 ≤ p.dStart ∧ p.dStart ≤ 500) ∧ p.dHold ≤ p.dStart ∧ (1 ≤ p.kMin ∧ p.kMin ≤ 20) ∧
      (p.kMin ≤ p.kMax ∧ p.kMax ≤ 200) ∧ (200 ≤ p.lBase ∧ p.lBase ≤ 5000) ∧ p.aVeh ≤ 500 ∧
      (500 ≤ p.iOv ∧ p.iOv ≤ 6000) ∧ (1 ≤ p.nOv ∧ p.nOv ≤ 4000)
    (1 ≤ b.toNat → b.toNat ≤ 24 → (s.feeder? b.toNat).isSome = true → (s.context? b.toNat).isSome = true → good →
      exec (.setProtection tag (b :: data)) s = .next
        ((s.modContext b.toNat fun c => { c with settings := p }).replied 0x18 tag (0x00 :: data))) ∧
    (1 ≤ b.toNat → b.toNat ≤ 24 → (s.feeder? b.toNat).isSome = true → ¬ good →
      exec (.setProtection tag (b :: data)) s = .next (s.replied 0x18 tag [0x03])) ∧
    (1 ≤ b.toNat → b.toNat ≤ 24 → s.feeder? b.toNat = none →
      exec (.setProtection tag (b :: data)) s = .next (s.replied 0x18 tag [0x04])) ∧
    (b.toNat = 0 ∨ 24 < b.toNat → exec (.setProtection tag (b :: data)) s = .next (s.replied 0x18 tag [0x03])) ∧
    (∀ args, args.length ≠ 17 → exec (.setProtection tag args) s = .next (s.replied 0x18 tag [0x02]))

/-! ## Switch points -/

/-- R99, 10.4: GET_SWITCH answers the whole record, 33 bytes and 9 for each request of its queue, with its supply section's state
as it stands, and changes nothing; a wrong length, a number out of range and one without a record are refused. A RESTORE
outside FAULT is REFUSED_STATE with the same record, after the same checks. -/
def Obligations.SwitchReads : Prop :=
  ∀ (tag b : Byte) (s : State), s.ready = true →
    (∀ w, 1 ≤ b.toNat → b.toNat ≤ 24 → s.switch? b.toNat = some w → ∃ body,
      exec (.getSwitch tag [b]) s = .next (s.replied 0x20 tag (0x00 :: body)) ∧
      (∀ l, w.state ≠ .fault → exec (.switchRestore tag [b, l]) s = .next (s.replied 0x21 tag (0x05 :: body))) ∧
      body.length = 33 + 9 * w.queue.length ∧ body.take 3 = b :: le16 w.node ∧
      (∀ x, s.section? w.supply = some x → (body.drop 3).take 2 = [u8 w.supply, u8 x.state.code]) ∧
      (body.drop 5).take 3 = [u8 w.defaultLeg.code, u8 w.tThrow, yes w.hold] ∧
      (body.drop 8).take 6 = [u8 (legCode w.position), u8 w.state.code, u8 (faultReasonCode w.fault), u8 w.zone,
        u8 (legCode w.pin), u8 (legCode (w.throw.map (·.target)))] ∧
      (body.drop 14).take 6 = optTime (w.throw.map (·.start)) ++ [yes (w.throw.any (·.seen))] ∧
      (body.drop 20).take 6 = [u8 w.discrepancy, w.entries, w.exits, w.dewirements, yes w.baseline, u8 w.aspect.code] ∧
      (body.drop 26).take 7 = optTime w.headSince ++ [yes w.holdLong, u8 w.queue.length] ∧
      body.drop 33 = w.queue.flatMap fun r =>
        le16 r.vehicle ++ u8 r.leg.code :: u8 r.origin.code :: (le32 r.created.t.toNat ++ [yes r.inPassage])) ∧
    (b.toNat = 0 ∨ 24 < b.toNat → exec (.getSwitch tag [b]) s = .next (s.replied 0x20 tag [0x03]) ∧
      ∀ l, exec (.switchRestore tag [b, l]) s = .next (s.replied 0x21 tag [0x03])) ∧
    (1 ≤ b.toNat → b.toNat ≤ 24 → s.switch? b.toNat = none →
      exec (.getSwitch tag [b]) s = .next (s.replied 0x20 tag [0x04]) ∧
      ∀ l, exec (.switchRestore tag [b, l]) s = .next (s.replied 0x21 tag [0x04])) ∧
    (∀ args, args.length ≠ 1 → exec (.getSwitch tag args) s = .next (s.replied 0x20 tag [0x02])) ∧
    (∀ args, args.length ≠ 2 → exec (.switchRestore tag args) s = .next (s.replied 0x21 tag [0x02]))

/-- R84, R95, R97: PIN and UNPIN set the pin; a throw starts to the new target exactly when the switch point is SET at another
position with an empty zone and a LIVE supply section; the aspect is brought up to date; no other switch point changes, and a
condition only if HOLD_LONG has become due. That the position (log 45) and the discrepancy run (log 31) stay when a throw starts
is read from the spec by inference. -/
def Obligations.PinsDecideThrows : Prop :=
  ∀ (tag b : Byte) (w : SwitchPoint) (s : State), s.ready = true → 1 ≤ b.toNat → b.toNat ≤ 24 →
    s.switch? b.toNat = some w →
    let decided (pin : Option Leg) (i : Instr) : Prop :=
      ∃ t u, exec i s = .next t ∧ s.sameButSwitches t ∧ s.otherSwitches t b.toNat ∧ t.switch? b.toNat = some u ∧
        u = { w with pin := pin, state := u.state, throw := u.throw, aspect := u.aspect, holdLong := u.holdLong } ∧
        (∀ leg, (pin = some leg ∨ (pin = none ∧ w.head?.map (·.leg) = some leg)) →
          w.state = .set ∧ w.zone = 0 ∧ s.supplyLive w = true ∧ w.position ≠ some leg →
          u.state = .moving ∧ u.throw = some { target := leg, start := s.time.now, seen := false } ∧ u.aspect = .stop) ∧
        ((¬ ∃ leg, (pin = some leg ∨ (pin = none ∧ w.head?.map (·.leg) = some leg)) ∧
          w.state = .set ∧ w.zone = 0 ∧ s.supplyLive w = true ∧ w.position ≠ some leg) →
          u.state = w.state ∧ u.throw = w.throw ∧ u.aspect = w.aspectNow) ∧
        (t.cond = s.cond ∨ (w.holdLong = false ∧ u.holdLong = true)) ∧
        t.link.outbound.getLast? = some (replyFrame 0x21 tag (0x00 :: switchRecord t u))
    decided (some .straight) (.pin tag [b, 1]) ∧ decided (some .turn) (.pin tag [b, 2]) ∧
    (∀ l, decided none (.unpin tag [b, l])) ∧
    (∀ l : Byte, l ≠ 1 → l ≠ 2 → exec (.pin tag [b, l]) s = .next (s.replied 0x21 tag [0x03]))

/-- R83, R84, R95, R97: HOLD_ON and HOLD_OFF set the hold setting alone. CLEAR_QUEUE leaves the requests in passage, so that no head
is left: head since becomes absent and hold long raised no; under a pin the throw decision starts a throw exactly when the switch
point is SET at another position with an empty zone and a LIVE supply section, and otherwise state and throw stay. RESTORE makes a
FAULT UNCERTAIN and ends the cause of SWITCH_FAULT; outside FAULT it is answered REFUSED_STATE. The aspect follows: STOP for a
switch point that is not SET, and with hold on for a zone that is not empty or a head whose leg is not the position; otherwise the
position's. Every other field of the record, every other switch point and every other block stay; HOLD_LONG may have become due.
That the position (log 45) and the discrepancy run (log 31) stay even where CLEAR_QUEUE's decision starts a throw is read from the
spec by inference. -/
def Obligations.SwitchOrders : Prop :=
  ∀ (tag b l : Byte) (w : SwitchPoint) (s : State), s.ready = true → 1 ≤ b.toNat → b.toNat ≤ 24 →
    s.switch? b.toNat = some w →
    (∀ on : Bool, ∃ t u, exec (if on then .holdOn tag [b, l] else .holdOff tag [b, l]) s = .next t ∧ s.sameButSwitches t ∧
      s.otherSwitches t b.toNat ∧ t.switch? b.toNat = some u ∧
      u = { w with hold := on, aspect := u.aspect, holdLong := u.holdLong } ∧
      (w.state ≠ .set ∨ (on = true ∧ 0 < w.zone) → u.aspect = .stop) ∧
      (∀ r, on = true → w.head? = some r → w.position ≠ some r.leg → u.aspect = .stop) ∧
      (∀ leg, w.state = .set → w.position = some leg → on = false ∨ (w.zone = 0 ∧ ∀ r, w.head? = some r → r.leg = leg) →
        u.aspect = match leg with | .straight => .proceedStraight | .turn => .proceedTurn) ∧
      (t.cond = s.cond ∨ (w.holdLong = false ∧ u.holdLong = true)) ∧
      t.link.outbound.getLast? = some (replyFrame 0x21 tag (0x00 :: switchRecord t u))) ∧
    (∃ t u, exec (.clearQueue tag [b, l]) s = .next t ∧ s.sameButSwitches t ∧ s.otherSwitches t b.toNat ∧
      t.switch? b.toNat = some u ∧ u.head? = none ∧
      u = { w with
        queue := w.queue.filter (·.inPassage), headSince := if w.head?.isSome then none else w.headSince, state := u.state
        throw := u.throw, aspect := u.aspect, holdLong := u.holdLong } ∧
      (w.head?.isSome = true → u.holdLong = false ∧ t.cond = s.cond) ∧
      (∀ leg, w.pin = some leg → w.state = .set → w.zone = 0 → s.supplyLive w = true → w.position ≠ some leg →
        u.state = .moving ∧ u.throw = some { target := leg, start := s.time.now, seen := false } ∧ u.aspect = .stop) ∧
      ((∀ leg, w.pin = some leg → w.state = .set → w.zone = 0 → s.supplyLive w = true → w.position = some leg) →
        u.state = w.state ∧ u.throw = w.throw ∧
        (w.state ≠ .set ∨ (w.hold = true ∧ 0 < w.zone) → u.aspect = .stop) ∧
        (∀ leg, w.state = .set → w.position = some leg → w.hold = false ∨ w.zone = 0 →
          u.aspect = match leg with | .straight => .proceedStraight | .turn => .proceedTurn)) ∧
      (t.cond = s.cond ∨ (w.holdLong = false ∧ u.holdLong = true)) ∧
      t.link.outbound.getLast? = some (replyFrame 0x21 tag (0x00 :: switchRecord t u))) ∧
    (w.state = .fault → ∃ t u, exec (.switchRestore tag [b, l]) s = .next t ∧ s.sameButSwitches t ∧
      s.otherSwitches t b.toNat ∧ t.switch? b.toNat = some u ∧
      u = { w with state := .uncertain, fault := none, aspect := .stop, holdLong := u.holdLong } ∧
      (∀ e ∈ t.cond.entries, e.kind = .switchFault → e.subject = b.toNat → e.cause = some .ended) ∧
      t.link.outbound.getLast? = some (replyFrame 0x21 tag (0x00 :: switchRecord t u))) ∧
    (w.state ≠ .fault → exec (.switchRestore tag [b, l]) s = .next (s.replied 0x21 tag (0x05 :: switchRecord s w)))

/-- R76 to R80, R85, R90 to R93, R105, R111: what joins and leaves a switch queue. ADD_REQUEST for a vehicle IN_SIGHT: a request of
the vehicle takes the leg and origin STATION in its place; a new one joins the end of a queue with room; a full queue answers BUSY
and raises SWITCH_QUEUE_FULL; a vehicle not IN_SIGHT is NOT_FOUND. A beacon report, of a vehicle with a record or one that gets a
new one in a table with room, gives each of the beacon's approach switches the same kind of request, with the leg of the first route
entry of its code and switch and origin ROUTE, or the switch's default leg and origin DEFAULT. An entry counted by the unit takes
the head into passage and raises the zone count, up to 3, and is a MISROUTE where R91 says so, in UNCERTAIN and FAULT always, a
passage in MOVING leaving FAULT; one counted in the slot that completes a throw enters a SET switch, and no next throw starts, as
the throw decision finds it in the zone (log 54); an exit removes the oldest request in passage, and one that empties the zone makes
the throw decision; entry and exit out of sequence raise CONTACT_SEQUENCE alone; a dewirement leaves FAULT and gives the oldest
vehicle in passage a WAYSIDE DEWIRED fault; entries are taken before exits. That a throw which starts leaves the position (log 45)
and log 54 are read from the spec by inference. -/
def Obligations.AddRequestRule : Prop :=
  (∀ (tag b v0 v1 l : Byte) (leg : Leg) (w : SwitchPoint) (s : State), s.ready = true → 1 ≤ b.toNat → b.toNat ≤ 24 →
    s.switch? b.toNat = some w → 1 ≤ num16 v0 v1 → num16 v0 v1 ≤ 9999 →
    (l = 1 ∧ leg = .straight) ∨ (l = 2 ∧ leg = .turn) →
    let inSight := ∃ v, s.vehicle? (num16 v0 v1) = some v ∧ v.inSight = true
    (∀ pre post r, inSight → w.queue = pre ++ r :: post → (∀ q ∈ pre, q.vehicle ≠ num16 v0 v1) → r.vehicle = num16 v0 v1 →
      ∃ t u, exec (.addRequest tag [b, v0, v1, l]) s = .next t ∧ s.sameButSwitches t ∧ s.otherSwitches t b.toNat ∧
        t.switch? b.toNat = some u ∧ u.queue = pre ++ { r with leg := leg, origin := .station } :: post ∧
        u.headSince = w.headSince ∧ u.pin = w.pin ∧ u.zone = w.zone ∧ u.position = w.position ∧
        t.link.outbound.getLast? = some (replyFrame 0x22 tag (0x00 :: switchRecord t u))) ∧
    (inSight → (∀ q ∈ w.queue, q.vehicle ≠ num16 v0 v1) → w.queue.length < 6 →
      ∃ t u, exec (.addRequest tag [b, v0, v1, l]) s = .next t ∧ s.sameButSwitches t ∧ s.otherSwitches t b.toNat ∧
        t.switch? b.toNat = some u ∧
        u.queue = w.queue ++ [{ vehicle := num16 v0 v1, leg := leg, origin := .station, created := s.stamp }] ∧
        u.headSince = (if w.head?.isSome then w.headSince else some s.time.now) ∧ u.pin = w.pin ∧ u.zone = w.zone ∧
        u.position = w.position ∧
        t.link.outbound.getLast? = some (replyFrame 0x22 tag (0x00 :: switchRecord t u))) ∧
    (inSight → (∀ q ∈ w.queue, q.vehicle ≠ num16 v0 v1) → 6 ≤ w.queue.length →
      exec (.addRequest tag [b, v0, v1, l]) s = .next ((raise .switchQueueFull b.toNat s).replied 0x22 tag [0x06])) ∧
    (¬ inSight → exec (.addRequest tag [b, v0, v1, l]) s = .next (s.replied 0x22 tag [0x04]))) ∧
  (∀ (n k : Nat) (b : Beacon) (r : BeaconReport) (w : SwitchPoint) (leg : Leg) (origin : RequestOrigin) (s : State),
    s.beacon? n = some b → b.lastReport ≠ some r.number → 1 ≤ r.vehicle → r.vehicle ≤ 9999 →
    (s.vehicle? r.vehicle).isSome = true ∨ s.reg.vehicles.length < 64 → b.approach.Nodup → k ∈ b.approach →
    s.switch? k = some w →
    ((r.route = 0 ∨ 999 < r.route ∨ ∀ e ∈ s.map.routes, ¬(e.code = r.route ∧ e.switch = k)) ∧
        leg = w.defaultLeg ∧ origin = .default) ∨
      (1 ≤ r.route ∧ r.route ≤ 999 ∧ (∃ pre e post, s.map.routes = pre ++ e :: post ∧
        (∀ p ∈ pre, ¬(p.code = r.route ∧ p.switch = k)) ∧ e.code = r.route ∧ e.switch = k ∧ leg = e.leg) ∧ origin = .route) →
    ∃ t u, takeReport n r s = t ∧ s.sameBase t ∧ t.ring = s.ring ∧ (∀ m, m ∉ b.approach → t.switch? m = s.switch? m) ∧
      t.switch? k = some u ∧ u.zone = w.zone ∧ u.pin = w.pin ∧ u.position = w.position ∧
      (∀ pre q post, w.queue = pre ++ q :: post → (∀ p ∈ pre, p.vehicle ≠ r.vehicle) → q.vehicle = r.vehicle →
        u.queue = pre ++ { q with leg := leg, origin := origin } :: post) ∧
      ((∀ q ∈ w.queue, q.vehicle ≠ r.vehicle) → w.queue.length < 6 →
        u.queue = w.queue ++ [{ vehicle := r.vehicle, leg := leg, origin := origin, created := s.stamp }]) ∧
      ((∀ q ∈ w.queue, q.vehicle ≠ r.vehicle) → 6 ≤ w.queue.length →
        u.queue = w.queue ∧ s.raises t .switchQueueFull k)) ∧
  (∀ (n : Nat) (r : SwitchReport) (w : SwitchPoint) (s : State), s.switch? n = some w → w.baseline = true →
    w.state = .fault ∨ (w.state = .uncertain ∧ s.supplyLive w = false) ∨
      (w.state = .set ∧ ∃ l, r.contacts.leg? = some l ∧ w.position = some l) →
    let counted (entries exits dewirements : Nat) : Prop := (r.entries - w.entries).toNat = entries ∧
      (r.exits - w.exits).toNat = exits ∧ (r.dewirements - w.dewirements).toNat = dewirements
    ∃ t u, switchSlot n r s = t ∧ s.sameBase t ∧ t.prot = s.prot ∧ t.ring = s.ring ∧ s.otherSwitches t n ∧
      t.switch? n = some u ∧ u.entries = r.entries ∧ u.exits = r.exits ∧ u.dewirements = r.dewirements ∧
      u.baseline = true ∧ u.pin = w.pin ∧ u.aspect = u.aspectNow ∧
      (r.dewirements = w.dewirements → t.sec = s.sec ∧ t.reg = s.reg) ∧
      (counted 1 0 0 → u.state = w.state ∧ u.position = w.position ∧
        (3 ≤ w.zone → u.zone = w.zone ∧ u.queue = w.queue ∧ s.raises t .contactSequence n) ∧
        (w.zone < 3 → u.zone = w.zone + 1) ∧
        (∀ pre h post, w.zone < 3 → w.queue = pre ++ h :: post → (∀ q ∈ pre, q.inPassage = true) → h.inPassage = false →
          u.queue = pre ++ { h with inPassage := true } :: post ∧
          (w.state = .set → w.position ≠ some h.leg → s.raises t .misroute n) ∧
          (w.state = .set → w.position = some h.leg → s.doesNotRaise t .misroute n)) ∧
        ((∀ q ∈ w.queue, q.inPassage = true) → u.queue = w.queue ∧ (w.state = .set → s.doesNotRaise t .misroute n)) ∧
        (w.state ≠ .set → s.raises t .misroute n)) ∧
      (counted 0 1 0 → (w.zone = 0 → u.zone = 0 ∧ u.queue = w.queue ∧ s.raises t .contactSequence n) ∧
        (0 < w.zone → u.zone = w.zone - 1 ∧ s.doesNotRaise t .contactSequence n) ∧
        (∀ pre p post, 0 < w.zone → w.queue = pre ++ p :: post → (∀ q ∈ pre, q.inPassage = false) → p.inPassage = true →
          u.queue = pre ++ post) ∧
        ((∀ q ∈ w.queue, q.inPassage = false) → u.queue = w.queue) ∧
        (∀ leg, w.zone = 1 → w.state = .set → w.target? = some leg → s.supplyLive w = true → w.position ≠ some leg →
          u.state = .moving ∧ u.throw = some { target := leg, start := s.time.now, seen := false } ∧
            u.position = w.position)) ∧
      (∀ h post, counted 1 1 0 → w.zone = 0 → w.queue = h :: post → (∀ q ∈ h :: post, q.inPassage = false) →
        u.zone = 0 ∧ u.queue = post) ∧
      (counted 0 0 1 → u.state = .fault ∧ u.zone = w.zone ∧ u.queue = w.queue ∧
        (w.state = .fault → u.fault = w.fault) ∧
        (w.state ≠ .fault → u.fault = some .dewirement ∧ u.position = none ∧ u.throw = none ∧ s.showsHolding t .switchFault n) ∧
        (w.zone = 0 ∨ (∀ q ∈ w.queue, q.inPassage = false) → t.reg = s.reg) ∧
        (∀ pre p post v, 0 < w.zone → w.queue = pre ++ p :: post → (∀ q ∈ pre, q.inPassage = false) → p.inPassage = true →
          s.vehicle? p.vehicle = some v → ((∃ e ∈ v.faults, e.kind = .dewired) ∨ v.faults.length < 4) →
          ∃ x, t.vehicle? p.vehicle = some x ∧ ∃ e ∈ x.faults, e.kind = .dewired ∧ e.source = .wayside ∧
            e.severity = .major ∧ e.lastSeen = s.stamp))) ∧
  (∀ (n : Nat) (r : SwitchReport) (w : SwitchPoint) (s : State), s.switch? n = some w → w.baseline = true →
    w.state = .moving → r.contacts = .none → w.zone = 0 → r.entries - w.entries = 1 → r.exits = w.exits →
    r.dewirements = w.dewirements →
    ∃ t u, switchSlot n r s = t ∧ s.sameButSwitches t ∧ s.otherSwitches t n ∧ t.switch? n = some u ∧ u.state = .fault ∧
      u.fault = some .passageWhileMoving ∧ u.position = none ∧ u.throw = none ∧ u.zone = 1 ∧ s.raises t .misroute n ∧
      s.showsHolding t .switchFault n) ∧
  (∀ (n : Nat) (r : SwitchReport) (w : SwitchPoint) (th : Throw) (s : State), s.switch? n = some w → w.baseline = true →
    w.state = .moving → w.throw = some th → r.contacts.leg? = some th.target → w.zone = 0 → r.entries - w.entries = 1 →
    r.exits = w.exits → r.dewirements = w.dewirements →
    ∃ t u, switchSlot n r s = t ∧ s.sameButSwitches t ∧ s.otherSwitches t n ∧ t.switch? n = some u ∧ u.state = .set ∧
      u.position = some th.target ∧ u.throw = none ∧ u.fault = w.fault ∧ u.zone = 1 ∧ u.pin = w.pin ∧ u.aspect = u.aspectNow ∧
      s.doesNotRaise t .switchFault n ∧
      (∀ pre h post, w.queue = pre ++ h :: post → (∀ q ∈ pre, q.inPassage = true) → h.inPassage = false →
        u.queue = pre ++ { h with inPassage := true } :: post ∧ (h.leg ≠ th.target → s.raises t .misroute n) ∧
        (h.leg = th.target → s.doesNotRaise t .misroute n)) ∧
      ((∀ q ∈ w.queue, q.inPassage = true) → u.queue = w.queue ∧ s.doesNotRaise t .misroute n))

/-! ## Vehicles and the other reads -/

/-- R116, R117, R142, R152, R178: GET_VEHICLE, LIST_VEHICLES, GET_CONDITIONS, GET_RING and GET_NODE answer OK with the contents
10.4 gives, or a refusal, and change nothing; a LIST_VEHICLES reply carries whole records from the start onward, within 480
bytes and 16 records, and as many as fit. The ATTENTION level byte is 01h while the line is asserted: the spec gives the byte no
code, so that is read by inference (log 29). The two bytes that log 30 leaves free are not fixed. -/
def Obligations.ReadsChangeNothing : Prop :=
  ∀ (tag b v0 v1 : Byte) (s : State), s.ready = true →
    (∀ i v, s.reg.vehicles[i]? = some v → v.number = num16 v0 v1 → 1 ≤ v.number → v.number ≤ 9999 →
      (∀ j, j < i → ∀ q, s.reg.vehicles[j]? = some q → q.number ≠ v.number) →
      ∃ body, exec (.getVehicle tag [v0, v1]) s = .next (s.replied 0x28 tag (0x00 :: u8 (i + 1) :: v0 :: v1 :: body)) ∧
        body.length = 11 + 11 * v.faults.length ∧
        body.take 3 = [(if v.inSight then 1 else 2), place v.sect, u8 v.lastBeacon] ∧
        (body.drop 3).take 4 = le32 v.lastSeen.t.toNat ∧
        (body.drop 7).take 4 = le16 v.route ++ [u8 v.pole.code, u8 v.faults.length] ∧ body.drop 11 = v.faults.flatMap fun e =>
          u8 e.kind.code :: u8 e.severity.code :: u8 e.source.code :: (le32 e.firstSeen.t.toNat ++ le32 e.lastSeen.t.toNat)) ∧
    (num16 v0 v1 = 0 ∨ 9999 < num16 v0 v1 → exec (.getVehicle tag [v0, v1]) s = .next (s.replied 0x28 tag [0x03])) ∧
    (1 ≤ num16 v0 v1 → num16 v0 v1 ≤ 9999 → s.vehicle? (num16 v0 v1) = none →
      exec (.getVehicle tag [v0, v1]) s = .next (s.replied 0x28 tag [0x04])) ∧
    (1 ≤ b.toNat → b.toNat ≤ 64 → ∃ records : List (List Byte),
      exec (.listVehicles tag [b]) s = .next (s.replied 0x29 tag
        (0x00 :: u8 s.reg.vehicles.length :: u8 records.length :: records.flatMap id)) ∧
      records.length ≤ 16 ∧ 3 + (records.flatMap id).length ≤ 480 ∧
      (∀ i r, records[i]? = some r →
        ∃ v, s.reg.vehicles[b.toNat - 1 + i]? = some v ∧ r = vehicleRecord (b.toNat + i) v) ∧
      (records.length < 16 → ∀ v, s.reg.vehicles[b.toNat - 1 + records.length]? = some v →
        480 < 3 + (records.flatMap id).length + (vehicleRecord (b.toNat + records.length) v).length)) ∧
    (b.toNat = 0 ∨ 64 < b.toNat → exec (.listVehicles tag [b]) s = .next (s.replied 0x29 tag [0x03])) ∧
    (1 ≤ b.toNat → b.toNat ≤ 49 →
      let shown := ((s.cond.entries ++ s.cond.overflow.toList).drop (b.toNat - 1)).take 32
      exec (.getConditions tag [b]) s = .next (s.replied 0x30 tag
        (0x00 :: u8 s.cond.entries.length :: yes s.cond.overflow.isSome :: yes s.cond.attention ::
          (s.cond.enables.map yes ++ u8 shown.length :: shown.flatMap fun e =>
            u8 e.kind.code :: (le16 e.subject ++ le32 e.first.t.toNat ++ le32 e.last.t.toNat ++
              [u8 e.count, u8 (causeCode e.cause)]))))) ∧
    (b.toNat = 0 ∨ 49 < b.toNat → exec (.getConditions tag [b]) s = .next (s.replied 0x30 tag [0x03])) ∧
    (∃ body, exec (.getRing tag []) s = .next (s.replied 0x38 tag (0x00 :: u8 s.ring.state.code :: u8 s.ring.darkRun :: body)) ∧
      body.length = 35 ∧ (∀ id, s.ring.ringPort = some id → body.take 1 = [u8 (portCode id)]) ∧
      (∀ id : PortId, (body.drop (match id with | .a => 1 | .b => 15)).take 14 =
        let p := s.ring.port id
        [u8 p.mode.code, yes p.linkUp, yes p.latch, yes p.sentLast, p.number, u8 (p.unitsPassed.getD 255)] ++
          le16 p.sent ++ le16 p.badCheck ++ le16 p.stale ++ le16 p.lost) ∧
      (body.drop 29).take 5 = [yes s.ring.recovery, u8 (s.ring.countNodes .present), u8 (s.ring.countNodes .silent),
        u8 (s.ring.countNodes .missing), u8 (s.ring.countNodes .foreign)] ∧
      (∀ d, s.ring.discovery = some d → body.drop 34 = [u8 d.shape.code])) ∧
    (∀ n, 1 ≤ b.toNat → b.toNat ≤ 64 → s.ring.nodes[b.toNat - 1]? = some n →
      exec (.getNode tag [b]) s = .next (s.replied 0x39 tag (0x00 :: b :: (le16 n.identity ++
        [u8 n.kind.code, u8 ((n.role.map (·.kind.code)).getD 0), place (n.role.map (·.index)), place n.posA, place n.posB,
          u8 n.state.code, u8 n.missRun] ++ value16 n.unitStatus ++ optStamp n.statusAt)))) ∧
    (1 ≤ b.toNat → b.toNat ≤ 64 → s.ring.nodes.length < b.toNat →
      exec (.getNode tag [b]) s = .next (s.replied 0x39 tag [0x04])) ∧
    (b.toNat = 0 ∨ 64 < b.toNat → exec (.getNode tag [b]) s = .next (s.replied 0x39 tag [0x03])) ∧
    (∀ args, args.length ≠ 1 → exec (.getConditions tag args) s = .next (s.replied 0x30 tag [0x02]) ∧
      exec (.listVehicles tag args) s = .next (s.replied 0x29 tag [0x02]) ∧
      exec (.getNode tag args) s = .next (s.replied 0x39 tag [0x02])) ∧
    (∀ args, args ≠ [] → exec (.getRing tag args) s = .next (s.replied 0x38 tag [0x02]))

/-- R103 to R110, R115, R118, R119: what changes vehicle records. A beacon report whose number is the beacon's last is ignored; a
void one is only noted; any other brings the vehicle's record up to date, or makes one at the end of a table with room, or in place
of the longest unseen record OUT_OF_SIGHT, without fault entries if there is one and else with VEHICLE_EVICTED; with 64 records
IN_SIGHT it is dropped with VEHICLE_TABLE_FULL. Its faults, in their order and each kind once, confirm entries, withdraw
VEHICLE-source entries they do not name, and join under the room rule of 4 entries, where a MAJOR one displaces the oldest MINOR
VEHICLE-source entry; a MAJOR entry made, or an entry raised to MAJOR, raises VEHICLE_FAULT, and a new INSULATION or DEWIRED entry
names the suspect of the section's watching trip records. CLEAR_VEHICLE_FAULT removes the entry of the kind and answers the record
as it then stands; FORGET_VEHICLE removes the record, in sight or not, and every request of the vehicle leaves every queue; nothing
else of the register changes. A number or kind out of range is OUT_OF_RANGE, a vehicle without a record or an entry NOT_FOUND. -/
def Obligations.VehicleCorrections : Prop :=
  (∀ (tag v0 v1 kb : Byte) (s : State), s.ready = true →
    (num16 v0 v1 = 0 ∨ 9999 < num16 v0 v1 →
      exec (.clearVehicleFault tag [v0, v1, kb]) s = .next (s.replied 0x2A tag [0x03]) ∧
      exec (.forgetVehicle tag [v0, v1]) s = .next (s.replied 0x2B tag [0x03])) ∧
    (FaultKind.ofCode kb.toNat = none → exec (.clearVehicleFault tag [v0, v1, kb]) s = .next (s.replied 0x2A tag [0x03])) ∧
    (∀ k, FaultKind.ofCode kb.toNat = some k → 1 ≤ num16 v0 v1 → num16 v0 v1 ≤ 9999 →
      (∀ i v, s.reg.vehicles[i]? = some v → v.number = num16 v0 v1 →
        (∀ j, j < i → ∀ q, s.reg.vehicles[j]? = some q → q.number ≠ v.number) → (∃ e ∈ v.faults, e.kind = k) →
        exec (.clearVehicleFault tag [v0, v1, kb]) s = .next
          ((s.modVehicle (num16 v0 v1) fun x => { x with faults := x.faults.filter (fun e => e.kind != k) }).replied 0x2A tag
            (0x00 :: vehicleRecord (i + 1) { v with faults := v.faults.filter (fun e => e.kind != k) }))) ∧
      (∀ v, s.vehicle? (num16 v0 v1) = some v → (∀ e ∈ v.faults, e.kind ≠ k) →
        exec (.clearVehicleFault tag [v0, v1, kb]) s = .next (s.replied 0x2A tag [0x04])) ∧
      (s.vehicle? (num16 v0 v1) = none →
        exec (.clearVehicleFault tag [v0, v1, kb]) s = .next (s.replied 0x2A tag [0x04]))) ∧
    (1 ≤ num16 v0 v1 → num16 v0 v1 ≤ 9999 →
      ((s.vehicle? (num16 v0 v1)).isSome = true → ∃ t, exec (.forgetVehicle tag [v0, v1]) s = .next t ∧ s.sameBase t ∧
        t.reg.vehicles = s.reg.vehicles.filter (fun v => v.number != num16 v0 v1) ∧ t.reg.beacons = s.reg.beacons ∧
        t.sec = s.sec ∧ t.prot = s.prot ∧ t.ring = s.ring ∧
        t.switches.map (fun w => (w.number, w.queue)) =
          s.switches.map (fun w => (w.number, w.queue.filter (fun r => r.vehicle != num16 v0 v1))) ∧
        t.switches.map (·.zone) = s.switches.map (·.zone) ∧
        t.link.outbound.getLast? = some (replyFrame 0x2B tag [0x00])) ∧
      (s.vehicle? (num16 v0 v1) = none →
        exec (.forgetVehicle tag [v0, v1]) s = .next (s.replied 0x2B tag [0x04])))) ∧
  (∀ (l : List (Nat × Nat)) (k sev : Nat), reportedFaults [] (l ++ [(k, sev)]) = reportedFaults [] l ++
    (match FaultKind.ofCode k, Severity.ofCode sev with
      | some kind, some severity =>
        if k ∈ l.map (·.1) then [] else [{ kind := kind, severity := severity : ReportedFault }]
      | _, _ => [])) ∧
  (∀ (n : Nat) (b : Beacon) (r : BeaconReport) (s : State), s.beacon? n = some b →
    let noted := s.modBeacon n fun x => { x with lastReport := some r.number }
    (b.lastReport = some r.number → takeReport n r s = s) ∧
    (b.lastReport ≠ some r.number → r.vehicle = 0 ∨ 9999 < r.vehicle → takeReport n r s = noted) ∧
    (b.lastReport ≠ some r.number → 1 ≤ r.vehicle → r.vehicle ≤ 9999 →
      let reported := reportedFaults [] r.faults
      let named (k : FaultKind) : Option Severity := (reported.find? (fun f => f.kind == k)).map (·.severity)
      let kept (old : List FaultEntry) : List FaultEntry :=
        (old.filter (fun e => e.source == .wayside || (named e.kind).isSome)).map fun e =>
          match named e.kind with
          | some sev => { e with severity := sev, lastSeen := s.stamp }
          | none => e
      let added (old : List FaultEntry) : List FaultEntry :=
        (reported.filter (fun f => !old.any (fun e => e.kind == f.kind))).map fun f =>
          { kind := f.kind, severity := f.severity, source := .vehicle, firstSeen := s.stamp, lastSeen := s.stamp }
      let record (faults : List FaultEntry) : Vehicle := {
        number := r.vehicle, inSight := true, sect := some b.sect, lastBeacon := b.number, lastSeen := s.stamp
        route := if 999 < r.route then 0 else r.route
        pole := if r.pole = 1 then .onWire else if r.pole = 2 then .down else .unknown, faults := faults }
      let onWire (e : FaultEntry) : Prop := e.kind = .insulation ∨ e.kind = .dewired
      let yields (e : FaultEntry) : Prop := e.severity = .minor ∧ e.source = .vehicle
      (∀ v, s.vehicle? r.vehicle = some v → ∃ t fl, takeReport n r s = t ∧ s.sameBase t ∧ t.prot = s.prot ∧ t.ring = s.ring ∧
        t.vehicle? r.vehicle = some (record fl) ∧ (∀ m, m ≠ r.vehicle → t.vehicle? m = s.vehicle? m) ∧
        t.reg.beacons = noted.reg.beacons ∧ (b.approach = [] → t.switches = s.switches) ∧
        ((kept v.faults).length + (added v.faults).length ≤ 4 → fl = kept v.faults ++ added v.faults) ∧
        (∀ e, (kept v.faults).length = 4 → added v.faults = [e] →
          (e.severity = .minor → fl = kept v.faults) ∧
          (e.severity = .major → (∀ o ∈ kept v.faults, ¬ yields o) → fl = kept v.faults) ∧
          (∀ pre o post, e.severity = .major → (v.faults.map (·.kind)).Nodup → kept v.faults = pre ++ o :: post → yields o →
            (∀ x ∈ pre, yields x → o.firstSeen.olderThan s.time.now x.firstSeen = true) →
            (∀ x ∈ post, yields x → x.firstSeen.olderThan s.time.now o.firstSeen = false) → fl = pre ++ post ++ [e])) ∧
        ((∃ e ∈ added v.faults, e.severity = .major ∧ e ∈ fl) ∨
            (∃ o ∈ v.faults, o.severity = .minor ∧ named o.kind = some .major) → s.raises t .vehicleFault r.vehicle) ∧
        ((∀ e ∈ added v.faults, e.severity = .minor) →
          (∀ o ∈ v.faults, ¬(o.severity = .minor ∧ named o.kind = some .major)) →
          s.doesNotRaise t .vehicleFault r.vehicle) ∧
        ((∀ e ∈ added v.faults, ¬ onWire e) → t.sec = s.sec) ∧
        ((∃ e ∈ added v.faults, onWire e ∧ e ∈ fl) → t.sec.trips = s.sec.trips.map fun q =>
          if q.watching = true ∧ q.suspect = none ∧ q.sect = b.sect ∧ q.time.aged = false ∧
              (s.time.now - q.time.t).toNat ≤ 2000 then
            { q with suspect := some r.vehicle, read := false }
          else q)) ∧
      (s.vehicle? r.vehicle = none → s.reg.vehicles.length < 64 → reported.length ≤ 4 →
        (takeReport n r s).reg.vehicles = s.reg.vehicles ++ [record (added [])]) ∧
      (s.vehicle? r.vehicle = none → 64 ≤ s.reg.vehicles.length → (∀ v ∈ s.reg.vehicles, v.inSight = true) →
        takeReport n r s = raise .vehicleTableFull 0 noted) ∧
      (∀ pre v post, s.vehicle? r.vehicle = none → 64 ≤ s.reg.vehicles.length → s.reg.vehicles = pre ++ v :: post →
        (s.reg.vehicles.map (·.number)).Nodup → reported.length ≤ 4 →
        let candidate (x : Vehicle) : Prop := x.inSight = false ∧
          (x.faults = [] ∨ ∀ y ∈ s.reg.vehicles, y.inSight = false → y.faults ≠ [])
        candidate v → (∀ x ∈ pre, candidate x → v.lastSeen.olderThan s.time.now x.lastSeen = true) →
        (∀ x ∈ post, candidate x → x.lastSeen.olderThan s.time.now v.lastSeen = false) →
        (takeReport n r s).reg.vehicles = pre ++ post ++ [record (added [])] ∧
        (v.faults ≠ [] → s.raises (takeReport n r s) .vehicleEvicted v.number))))

/-! ## The ring's requests and ports -/

/-- R123, R124, R134, R143: SET_MODE and REOPEN of a port, a change of its link and a link-up announce change that port's mode,
latch and link state as stated, and nothing else; REOPEN's mode byte is not read; a port or mode code out of range and a wrong
length are refused. RESTART withdraws the outstanding numbers and starts discovery at step 1: STARTING, no baseline, no pending
count; the node table, the ports' modes and counts, the sections, the queues and the dark run stay. That SET_MODE to AUTO_SHUT
of a port already in that mode keeps its latch is read by inference (log 38), and so is that RESTART leaves a telegram that has not
come back to be counted lost (log 20). -/
def Obligations.RingOrdersAndPortRules : Prop :=
  (∀ (tag pb mb : Byte) (id : PortId) (mode : PortMode) (up : Bool) (s : State), pb = u8 (portCode id) → mb = u8 mode.code →
     (s.ready = true → exec (.setMode tag [pb, mb]) s = .next
       ((s.modRing (·.modPort id fun p => { p with
         mode := mode, latch := if mode = .autoShut ∧ p.mode ≠ .autoShut then !p.linkUp else p.latch })).replied
         0x3A tag [0x00])) ∧
     (∀ m : Byte, s.ready = true → exec (.reopen tag [pb, m]) s = .next
       ((s.modRing (·.modPort id fun p => { p with latch := false })).replied 0x3A tag [0x00])) ∧
     (∀ m : Byte, s.ready = true → 4 ≤ m.toNat → exec (.setMode tag [pb, m]) s = .next (s.replied 0x3A tag [0x03])) ∧
     (∀ args, s.ready = true → args.length ≠ 2 → exec (.setMode tag args) s = .next (s.replied 0x3A tag [0x02]) ∧
       exec (.reopen tag args) s = .next (s.replied 0x3A tag [0x02]) ∧
       exec (.restart tag args) s = .next (s.replied 0x3A tag [0x02])) ∧
     (∀ b : Byte, s.ready = true → 2 ≤ b.toNat → exec (.setMode tag [b, mb]) s = .next (s.replied 0x3A tag [0x03]) ∧
       exec (.reopen tag [b, mb]) s = .next (s.replied 0x3A tag [0x03])) ∧
     exec (.portLinkChange id up) s = .next (s.modRing (·.modPort id fun p => { p with
       linkUp := up, latch := if p.linkUp = true ∧ up = false then true else p.latch })) ∧
     exec (.linkUpAnnounce id) s = .next (s.modRing (·.modPort id fun p => { p with
       latch := if p.mode = .shut then p.latch else false }))) ∧
  (∀ (tag p m : Byte) (s : State), s.ready = true →
     ∃ t, exec (.restart tag [p, m]) s = .next t ∧ s.sameBase t ∧ t.sec = s.sec ∧ t.prot = s.prot ∧
       t.switches = s.switches.map (fun w => { w with baseline := false }) ∧ t.reg.vehicles = s.reg.vehicles ∧
       t.reg.beacons = s.reg.beacons.map (fun b => { b with reportsHeld := 0 }) ∧
       t.ring = { s.ring with
         state := .starting, discovery := some {}, a := { s.ring.a with outstanding := none }
         b := { s.ring.b with outstanding := none } } ∧
       s.cond.sameButCauses t.cond ∧
       t.link = { s.link with outbound := s.link.outbound ++ [replyFrame 0x3A tag [0x00]] })

/-! ## The map store -/

/-- R168: READ_PAGE of a page 0 to 63 answers OK with the page number, its page state, its 256 bytes as they stand and the
version of the map now installed, or 0 when no map is installed; a body of the wrong length is answered BAD_LENGTH and another
page number OUT_OF_RANGE. A read is carried out in one handling and changes nothing but the reply slots. -/
def Obligations.ReadPageRule : Prop :=
  ∀ (tag p : Byte) (s : State), s.ready = true → (s.map.valid = false → s.map.version = 0) →
    (p.toNat ≤ 63 → exec (.readPage tag [p]) s = .next (s.replied 0x40 tag
      (0x00 :: p :: (if p = 0 ∨ p.toNat ∈ s.store.written then 1 else 0) ::
        (readBytes s.store.mem (256 * p.toNat) 256 ++ le16 (if s.map.valid then s.map.version else 0)))) ∧
      (readBytes s.store.mem (256 * p.toNat) 256).length = 256 ∧
      ∀ i, i < 256 → (readBytes s.store.mem (256 * p.toNat) 256)[i]? = some (readByte s.store.mem (256 * p.toNat + i))) ∧
    (63 < p.toNat → exec (.readPage tag [p]) s = .next (s.replied 0x40 tag [0x03])) ∧
    (∀ args, args.length ≠ 1 → exec (.readPage tag args) s = .next (s.replied 0x40 tag [0x02]))

/-- R166, R169, R170, R171: WRITE_PAGE of an ERASED map page sets its mark and makes the store busy without a reply; ERASE_MAP
does so with every section DEAD, ISOLATED, LOCKED_OUT or UNSETTLED. 10 ms after its start the write has ended: the page holds the
256 bytes, every other byte is as before, and the request is answered OK with the page, at once or, with no reply slot free, as
soon as one is. 1.5 s after its start the erase has ended, whatever the sections have done since: pages 1 to 63 read FFh and are
ERASED, page 0 is as before, a mark of an operation once cut short is gone, and the request is answered OK. Neither changes a
working table. The refusals are those of R169 and R170. The model's choices in this: an end row before its time changes nothing
(log 3), and the bytes change at the end alone (log 44). -/
def Obligations.StoreOperations : Prop :=
  (∀ (tag p : Byte) (data : List Byte) (s : State), s.ready = true → data.length = 256 →
    (63 < p.toNat → exec (.writePage tag (p :: data)) s = .next (s.replied 0x41 tag [0x03])) ∧
    (p.toNat ≤ 63 → (p = 0 ∨ p.toNat ∈ s.store.written) →
      exec (.writePage tag (p :: data)) s = .next (s.replied 0x41 tag [0x08])) ∧
    (p.toNat ≤ 63 → p ≠ 0 → p.toNat ∉ s.store.written → exec (.writePage tag (p :: data)) s = .next { s with
      store := { s.store with written := s.store.written ++ [p.toNat], busy := some (.write p.toNat data s.time.now) }
      link := { s.link with serving := some (.store 0x41 tag) } })) ∧
  (∀ (tag : Byte) (s : State), s.ready = true →
    (∀ args, args.length ≠ 257 → exec (.writePage tag args) s = .next (s.replied 0x41 tag [0x02])) ∧
    (∀ args, args ≠ [] → exec (.eraseMap tag args) s = .next (s.replied 0x42 tag [0x02])) ∧
    ((∃ x ∈ s.sec.sections, x.state ∉ [.dead, .isolated, .lockedOut, .unsettled]) →
      exec (.eraseMap tag []) s = .next (s.replied 0x42 tag [0x05])) ∧
    ((∀ x ∈ s.sec.sections, x.state ∈ [.dead, .isolated, .lockedOut, .unsettled]) →
      exec (.eraseMap tag []) s = .next { s with
        store := { s.store with busy := some (.erase s.time.now) }
        link := { s.link with serving := some (.store 0x42 tag) } })) ∧
  (∀ (kind tag : Byte) (s : State), s.link.serving = some (.store kind tag) →
    let answered (body : List Byte) : Link := if s.link.replySlotFree = true then
        { s.link with serving := none, outbound := s.link.outbound ++ [replyFrame kind tag body] }
      else { s.link with serving := some (.reply kind tag body) }
    (∀ page data start, s.store.busy = some (.write page data start) →
      ((s.time.now - start).toNat < 10 → exec .pageWriteFinished s = .next s) ∧
      (10 ≤ (s.time.now - start).toNat → s.store.ok → ∃ mem, exec .pageWriteFinished s = .next { s with
          store := { s.store with mem := mem, busy := none }, link := answered [0x00, u8 page] } ∧
        readBytes mem (256 * page) 256 = data ∧
        ∀ a, a < 256 * page ∨ 256 * page + 256 ≤ a → readByte mem a = readByte s.store.mem a)) ∧
    (∀ start, s.store.busy = some (.erase start) →
      ((s.time.now - start).toNat < 1500 → exec .mapEraseFinished s = .next s) ∧
      (1500 ≤ (s.time.now - start).toNat → ∃ mem, exec .mapEraseFinished s = .next { s with
          store := { s.store with mem := mem, written := [], busy := none, cutShort := none }, link := answered [0x00] } ∧
        (∀ a, 256 ≤ a → readByte mem a = 0xFF) ∧ ∀ a, a < 256 → readByte mem a = readByte s.store.mem a)))

/-- R172, R173, R174, R175, R180: what makes a map valid: page 1 WRITTEN and the format mark right, every count in its range, the
CRC that of the record bytes, and the records good (mapRecordsGood: numbers, identities, codes and settings in range, none used
twice, every reference answered, one or two feeders to a section); of the first three checks also where they put the fault: page 1
offset 0, the count, the CRC field. Which count is at fault when several are (each count's own range in field order, then the total
of units at the feeder count) is read from the spec by inference (log 24). A store whose operation a reset cut short holds no valid
map until it is erased (R166; its fault's place is free, log 10). APPLY_MAP answers MAP_INVALID with the fault's page and offset and
changes nothing; a valid map with a section that is not DEAD, ISOLATED or LOCKED_OUT is answered REFUSED_STATE; otherwise the map is
installed: every table and setting as the map's bytes give it (State.holdsMap), every section ISOLATED, contexts IDLE, switch points
UNCERTAIN, the trip records kept, discovery started with the old node table, the test units addressed in the period still to be
settled (R132), MAP_INVALID gone, the pages untouched, the silence timer restarted, after an expiry too (the model's choice, log
53), and the vehicle records kept: one whose time in sight, measured with the new T_sight, has run out goes OUT_OF_SIGHT, and a
section that the new map does not have becomes absent. The reply gives the version and the six counts; a body that is not empty is
answered BAD_LENGTH. -/
def Obligations.ApplyMapRule : Prop :=
  (∀ st : Store,
    let at' (o : Nat) : Nat := mapByte st.mem o
    let header := 1 ∈ st.written ∧ mapWord st.mem 0 = 0xA55A
    let counts := (1 ≤ at' 4 ∧ at' 4 ≤ 16) ∧ (1 ≤ at' 5 ∧ at' 5 ≤ 24) ∧ at' 6 ≤ 24 ∧ at' 7 ≤ 24 ∧ at' 8 ≤ 6 ∧
      mapWord st.mem 9 ≤ 256 ∧ at' 11 = 1 ∧ at' 5 + at' 6 + at' 7 + at' 8 ≤ 64
    let size := 9 * at' 4 + 20 * at' 5 + 7 * at' 6 + 6 * at' 7 + 8 * at' 8 + 4 * mapWord st.mem 9 + 33
    let check := mapWord st.mem 12 = (crc16 (readBytes st.mem (256 + 14) size)).toNat
    (¬ header → mapFault st = some 0) ∧
    (header → ¬ counts → mapFault st = some
      (if ¬(1 ≤ at' 4 ∧ at' 4 ≤ 16) then 4 else if ¬(1 ≤ at' 5 ∧ at' 5 ≤ 24) then 5 else if 24 < at' 6 then 6
       else if 24 < at' 7 then 7 else if 6 < at' 8 then 8 else if 256 < mapWord st.mem 9 then 9 else if at' 11 ≠ 1 then 11
       else 5)) ∧
    (header → counts → ¬ check → mapFault st = some 12) ∧
    (mapFault st = none ↔ header ∧ counts ∧ check ∧ mapRecordsGood st.mem ∧ st.cutShort = none)) ∧
  ∀ (tag : Byte) (s : State), s.ready = true →
    (∀ o, mapFault s.store = some o →
      exec (.applyMap tag []) s = .next (s.replied 0x43 tag [0x09, u8 (o / 256 + 1), u8 o])) ∧
    (mapFault s.store = none → (∃ x ∈ s.sec.sections, x.state ∉ [.dead, .isolated, .lockedOut]) →
      exec (.applyMap tag []) s = .next (s.replied 0x43 tag [0x05])) ∧
    (mapFault s.store = none → (∀ x ∈ s.sec.sections, x.state ∈ [.dead, .isolated, .lockedOut]) →
      ∃ t, exec (.applyMap tag []) s = .next t ∧ t.pending = s.pending ∧ t.draws = s.draws ∧ t.time = s.time ∧
        t.store = s.store ∧ t.holdsMap s.store.mem ∧ t.map.valid = true ∧ t.map.version = mapWord s.store.mem 2 ∧
        t.sec.sections.length = mapByte s.store.mem 4 ∧
        (∀ x ∈ t.sec.sections, x.state = .isolated ∧ x.window = .closed ∧ x.attempts = 0 ∧ x.testsUsed = 0 ∧
          x.destination = none ∧ x.lockReason = none ∧ x.lastTest = none) ∧
        t.sec.feeders.length = mapByte s.store.mem 5 ∧
        (∀ f ∈ t.sec.feeders, f.breaker = .unknown ∧ f.ownRelease = none ∧ f.order = .idle ∧ f.health = .ok ∧
          f.latch = false) ∧
        (∀ u ∈ t.sec.testUnits, u.queue = [] ∧ u.phase = .idle ∧ u.testNumber = 0) ∧
        t.sec.trips = s.sec.trips.map (fun r => { r with watching := false }) ∧ t.sec.emergency = s.sec.emergency ∧
        (∀ c ∈ t.prot, c.status = .idle ∧ c.buffer = [] ∧ c.iPrev = none ∧ c.miss = 0 ∧ c.latch = false) ∧
        t.switches.length = mapByte s.store.mem 6 ∧
        (∀ w ∈ t.switches, w.state = .uncertain ∧ w.position = none ∧ w.queue = [] ∧ w.pin = none ∧ w.zone = 0 ∧
          w.baseline = false ∧ w.aspect = .stop) ∧
        t.reg.vehicles = s.reg.vehicles.map (fun v =>
          let gone := ∃ u ∈ s.reg.vehicles, u.number = v.number ∧ u.inSight = true ∧
            (u.lastSeen.aged = true ∨ 1000 * t.map.tSight ≤ (s.time.now - u.lastSeen.t).toNat)
          if gone then { v with inSight := false, sect := none }
          else if v.inSight = true ∧ ∃ n, v.sect = some n ∧ n ∉ t.sec.sections.map (·.number) then { v with sect := none }
          else v) ∧
        (∀ b ∈ t.reg.beacons, b.lastReport = none ∧ b.reportsHeld = 0) ∧
        t.ring.state = .starting ∧ t.ring.nodes = s.ring.nodes ∧ t.ring.a.outstanding = none ∧
        t.ring.b.outstanding = none ∧ t.ring.testSent = s.ring.testSent ∧ t.ring.testServed = s.ring.testServed ∧
        t.ring.a.latch = false ∧ t.ring.b.latch = false ∧ t.ring.darkRun = s.ring.darkRun ∧
        t.cond.entries.map (fun e => { e with cause := none }) =
          (s.cond.entries.filter (fun e => !e.isOf .mapInvalid 0)).map (fun e => { e with cause := none }) ∧
        t.cond.attention = t.cond.review.attention ∧
        t.cond.silence = (if t.map.tSilence = 0 then none else some s.time.now) ∧
        t.link = { s.link with outbound := s.link.outbound ++ [replyFrame 0x43 tag (0x00 :: (le16 (mapWord s.store.mem 2) ++
          [u8 (mapByte s.store.mem 4), u8 (mapByte s.store.mem 5), u8 (mapByte s.store.mem 6), u8 (mapByte s.store.mem 7),
            u8 (mapByte s.store.mem 8)] ++ le16 (mapWord s.store.mem 9)))] }) ∧
    ∀ args, args ≠ [] → exec (.applyMap tag args) s = .next (s.replied 0x43 tag [0x02])

/-! ## The ring -/

/-- R125, R126, R131, R134, R136, R139 to R141: at every ring period at least one port sends; in RING, and in STARTING with a closed
discovery, only the ring port: A if it may send and otherwise B; in LINE and DOWN, and in STARTING with an open or undecided one,
every port that may; when neither port may send, A sends alone, flagged recovery, and no other port that may not send ever sends. A
port that sends uses its next number, which is then outstanding, and counts it; a port that does not send has no outstanding number;
a telegram of the past period that has not come back is counted lost. What a telegram carries: in RING and LINE the feeder orders,
the throw orders and aspects and the beacon slots, the fetches of beacons with reports pending and a PRESENT node, each with its
release number, in turn after the last one of the port, as many as there are places, the test orders and the service parcel, the
same on both ports, whose two rotations take the periods in turn (R140); in STARTING the next group of 16 positions of the side,
then its removal and its assignments; in DOWN the one ALL-addressed FETCH. Without any, one IDLE parcel. The two data bytes of an
assignment (log 14), a side with nothing left to send (log 15), a slot without a record (log 18), the rotations' moving on once in
each period that sends the schedule, whether or not the parcel comes back (log 22), and the order of the fetches where all have
places (log 23) are read from the spec by inference; the channel and test number bytes of a test parcel that is INJECTING, and the
channel byte of one that is STOPPING or has no channel (log 19), and going on after the last beacon of an earlier telegram where the
port's previous one fetched none (log 62), are the model's choices. -/
def Obligations.RingPeriodSends : Prop :=
  ∀ (order : List Nat) (s : State), ∃ t service, exec (.ringPeriod order) s = .next t ∧ t.ring.running = true ∧
    t.ring.goodSeen = false ∧ (t.ring.a.sentLast = true ∨ t.ring.b.sentLast = true) ∧
    (t.ring.recovery = true ↔ t.ring.a.maySend = false ∧ t.ring.b.maySend = false) ∧
    (t.ring.recovery = true → t.ring.a.sentLast = true ∧ t.ring.b.sentLast = false) ∧
    (t.ring.state = .ring ∨ (t.ring.state = .starting ∧ ∃ d, t.ring.discovery = some d ∧ d.shape = .closed) →
      (t.ring.a.maySend = true → t.ring.a.sentLast = true ∧ t.ring.b.sentLast = false) ∧
      (t.ring.a.maySend = false → t.ring.b.maySend = true → t.ring.a.sentLast = false ∧ t.ring.b.sentLast = true)) ∧
    (t.ring.state = .line ∨ t.ring.state = .down ∨
        (t.ring.state = .starting ∧ ∀ d, t.ring.discovery = some d → d.shape ≠ .closed) →
      ∀ id, (t.ring.port id).maySend = true → (t.ring.port id).sentLast = true) ∧
    (∀ id, (t.ring.port id).sentLast = true → (t.ring.port id).maySend = true ∨ (t.ring.recovery = true ∧ id = .a)) ∧
    (t.ring.state = .ring ∨ t.ring.state = .line → s.serviceTurn t service) ∧
    ∀ id, (t.ring.port id).mode = (s.ring.port id).mode ∧ (t.ring.port id).linkUp = (s.ring.port id).linkUp ∧
      (t.ring.port id).latch = (s.ring.port id).latch ∧
      (t.ring.port id).lost = (if s.ring.running = true ∧ (s.ring.port id).unreturned = true then
        (if (s.ring.port id).lost < 65535 then (s.ring.port id).lost + 1 else 65535) else (s.ring.port id).lost) ∧
      ((t.ring.port id).sentLast = true → (t.ring.port id).number = (s.ring.port id).number + 1 ∧
        (t.ring.port id).outstanding = some (t.ring.port id).number ∧
        (t.ring.port id).sent = (if (s.ring.port id).sent < 65535 then (s.ring.port id).sent + 1 else 65535) ∧
        ∃ parcels, (t.ring.port id).telegram = telegramBytes id (t.ring.port id).number parcels ∧
          (t.ring.state = .down → parcels = [{ kind := 0x01, mode := 4, address := 0, data := [] }]) ∧
          (∀ d, t.ring.state = .starting → t.ring.discovery = some d → parcels = d.sends id) ∧
          (t.ring.state = .ring ∨ t.ring.state = .line →
            let fixed := t.exchangeParcels.length + t.testOrders.length + service.length
            let fetched := (t.fetchable (s.ring.port id).lastFetch).take (16 - fixed)
            parcels = t.exchangeParcels ++ fetched.map (·.fetch) ++ t.testOrders ++ service ∧
            (t.ring.port id).lastFetch = match fetched.getLast? with
              | some b => some b.number
              | none => (s.ring.port id).lastFetch)) ∧
      ((t.ring.port id).sentLast = false → (t.ring.port id).number = (s.ring.port id).number ∧
        (t.ring.port id).outstanding = none ∧ (t.ring.port id).sent = (s.ring.port id).sent)

/-- R121, 10.5: a telegram as the part builds it reads back as what was put into it: its origin port, its number, leg OUT, hop
count 0 and its parcels, for every list of up to 16 parcels that fits 1500 bytes. -/
def Obligations.BuiltTelegramReadsBack : Prop :=
  ∀ (id : PortId) (number : Byte) (parcels : List Parcel), parcels.length ≤ 16 →
    (∀ p ∈ parcels, p.kind ≠ 0xFF ∧ p.address < 65536 ∧ p.tally < 256) →
    (parcels.flatMap (·.bytes)).length ≤ 1490 →
    readTelegram (telegramBytes id number parcels) =
      some { origin := id, number := number, back := false, hops := 0, parcels := parcels }

/-- R123, R127, R128: a telegram at a port that does not receive is not read; one with a bad end check, over 1500 bytes long, or
with a leg that does not agree with where it arrived raises the bad-check count of the arrival port (that alone when its number is
stale too, the model's choice, log 56); one whose number is not the outstanding number of its origin port raises the stale count of
that port; nothing else changes. The data of a role parcel whose tally is above the number of role holders of its kind, counted
within the hop count on a telegram that came back on its own port, are discarded: no slot is settled or handed on, no miss run
changes, and ROLE_CONFLICT is raised for the role kind. -/
def Obligations.TelegramsDiscarded : Prop :=
  (∀ (port : PortId) (bytes : List Byte) (order : List Nat) (s : State),
    ((s.ring.port port).mode = .shut → (port = .b ∨ s.ring.recovery = false) →
      exec (.telegramReturn port bytes order) s = .next s) ∧
    (s.ring.receives port = true →
      1500 < bytes.length ∨ bytes.length < 10 ∨
        bytes.drop (bytes.length - 4) ≠ le32 (crc32 (bytes.take (bytes.length - 4))).toNat ∨
        (∃ t, readTelegram bytes = some t ∧ ¬(t.back = true ↔ t.origin = port)) →
      exec (.telegramReturn port bytes order) s = .next (s.modRing (·.modPort port fun p => { p with
        badCheck := if p.badCheck < 65535 then p.badCheck + 1 else 65535 }))) ∧
    (∀ t, s.ring.receives port = true → readTelegram bytes = some t → (t.back = true ↔ t.origin = port) →
      (s.ring.port t.origin).outstanding ≠ some t.number →
      exec (.telegramReturn port bytes order) s = .next (s.modRing (·.modPort t.origin fun p => { p with
        stale := if p.stale < 65535 then p.stale + 1 else 65535 })))) ∧
  (∀ (port : PortId) (bytes : List Byte) (order : List Nat) (g : Telegram) (p : Parcel) (kind : RoleKind) (s : State),
    s.takes port bytes g → s.inPeriod port g → g.parcels = [p] → p.mode = 3 → p.address = kind.code →
    s.holders g port kind < p.tally →
    ∃ t, exec (.telegramReturn port bytes order) s = .next t ∧ s.sameOutsideRing t ∧ t.ring.nodes = s.ring.nodes ∧
      t.ring.settledFeeders = s.ring.settledFeeders ∧ t.ring.settledSwitches = s.ring.settledSwitches ∧
      t.ring.settledBeacons = s.ring.settledBeacons ∧ s.raises t .roleConflict kind.code)

/-- R127 to R130, R132, R134 to R141, R179, R16, R27: what a good telegram does. Its number stops being outstanding, its hop count
is the units passed, the dark run is 0. Outside STARTING the state becomes RING, or LINE when it came back on its own port. A served
slot of an index not yet settled is handed on: a feeder's as its sample and then its report (one that tripped as a slot of its kind,
R16 and R45), a switch point's as it is, a beacon's as its pending count; the holder's run becomes 0 and it is PRESENT, the
NODE_SILENT cause of a SILENT one ending; a second slot is not handed on. Settlement and runs, then sample, trip and report, is the
order of [] (log 9). A served fetch goes to the register and a served test parcel to the test unit's section, told apart by the
lengths 18 and 10 (log 39), a NODE parcel with another tally to nobody. A served service parcel (length 4) sets the entry's unit
status, any but FFFFh (log 28), and the time of the read, and makes a SILENT test unit PRESENT. A whole round whose hop count is the
number of entries not MISSING fills in each entry's missing position (absent below 1, log 50) and sorts the table, the rotations
keeping their entries. In STARTING the old table stays (log 37), the first telegram decides the shape, and one that disagrees starts
step 1 over, its own results dropped (log 16). When step 1 of a closed discovery ends (its side: log 15), the new table holds each
map node found once with its kind PRESENT with its role, each found by no unit MISSING, any other unit, or one met twice, FOREIGN
with NODE_FOREIGN (any identity, log 55). An assignment that comes back unserved raises its node's run; the last one served ends
discovery, closed or open: the new table, RING, or LINE with RING_OPEN, both rotations from the start (roles first, log 51),
NODE_MISSING for the newly missing, after reset adoption, with NODE_ABSENT for sections without their units. New entries show no
unit status (log 49). Logs 9, 49, 50, 51 and 55 are the model's choices, the others inferred. -/
def Obligations.GoodTelegramMovesRing : Prop :=
  (∀ (port : PortId) (bytes : List Byte) (order : List Nat) (g : Telegram) (s : State), s.ring.receives port = true →
    readTelegram bytes = some g → (g.back = true ↔ g.origin = port) → (s.ring.port g.origin).outstanding = some g.number →
    s.ring.state ≠ .starting →
    ∃ t, exec (.telegramReturn port bytes order) s = .next t ∧ s.sameBase t ∧ t.ring.darkRun = 0 ∧ t.ring.goodSeen = true ∧
      (t.ring.port g.origin).outstanding = none ∧ (t.ring.port g.origin).unitsPassed = some g.hops ∧
      t.ring.state = (if g.origin = port then .line else .ring) ∧
      (∀ id, (t.ring.port id).number = (s.ring.port id).number ∧ (t.ring.port id).mode = (s.ring.port id).mode ∧
        (t.ring.port id).stale = (s.ring.port id).stale ∧ (t.ring.port id).badCheck = (s.ring.port id).badCheck)) ∧
  (∀ (port : PortId) (bytes : List Byte) (g : Telegram) (p : Parcel) (i : Nat) (slot : List Byte) (s : State),
    s.takes port bytes g → s.inPeriod port g → g.parcels = [p] →
    ∃ t a, exec (.telegramReturn port bytes []) s = .next t ∧ s.sameOutsideRing a ∧
      (∀ kind node, p.mode = 3 → p.address = kind.code → p.tally ≤ s.holders g port kind → 1 ≤ i →
        p.data = List.replicate (kind.slotSize * (i - 1)) 0 ++ slot → slot.length = kind.slotSize →
        s.holder? kind i = some node →
        (kind = .feeder → ∀ rep, readFeederSlot slot = some rep → (s.feeder? i).isSome = true →
          i ∉ s.ring.settledFeeders → a.ring.nodes = s.nodesHeard node.identity ∧ i ∈ a.ring.settledFeeders ∧
          t = match sampleTrip i rep.current rep.voltage a with
            | some trip => feederReportAs (slotKind i a) i rep.breaker rep.count
                (takeTrip i trip.1 trip.2 (goodSample i rep.current rep.voltage a))
            | none => feederReport i rep.breaker rep.count (goodSample i rep.current rep.voltage a)) ∧
        (kind = .switch → ∀ rep, readSwitchSlot slot = some rep → (s.switch? i).isSome = true →
          i ∉ s.ring.settledSwitches → a.ring.nodes = s.nodesHeard node.identity ∧ i ∈ a.ring.settledSwitches ∧
          t = switchSlot i rep a) ∧
        (kind = .beacon → ∀ count, readBeaconSlot slot = some count → (s.beacon? i).isSome = true →
          i ∉ s.ring.settledBeacons → a.ring.nodes = s.nodesHeard node.identity ∧ i ∈ a.ring.settledBeacons ∧
          t = a.modBeacon i fun b => { b with reportsHeld := count }) ∧
        (node.state = .silent → s.heardNode? node.identity = some node → a.ring.nodes = s.nodesHeard node.identity →
          ∀ e ∈ a.cond.entries, e.kind = .nodeSilent → e.subject = node.identity → e.cause = some .ended) ∧
        ((kind = .feeder ∧ i ∈ s.ring.settledFeeders) ∨ (kind = .switch ∧ i ∈ s.ring.settledSwitches) ∨
            (kind = .beacon ∧ i ∈ s.ring.settledBeacons) → t = a ∧ a.ring.nodes = s.ring.nodes)) ∧
      (p.mode = 2 → p.tally ≠ 1 → t = a ∧ a.ring.nodes = s.ring.nodes) ∧
      (∀ rep b, p.mode = 2 → p.tally = 1 → p.data.length = 18 → readFetch p.data = some rep →
        s.reg.beacons.find? (fun x => x.node == p.address) = some b → t = takeReport b.number rep a) ∧
      (∀ number rep u, p.mode = 2 → p.tally = 1 → p.data.length = 10 → readTestReport p.data = some (number, rep) →
        s.sec.testUnits.find? (fun x => x.node == p.address) = some u →
        a.ring.nodes = s.nodesHeard p.address ∧ t = testReportArrives u.number number rep a) ∧
      (∀ x y lo hi, p.mode = 2 → p.tally = 1 → p.data = [x, y, lo, hi] → t = a ∧
        ((∀ j n, s.ring.serviceEntry = some j → s.ring.nodes[j]? = some n → n.identity ≠ p.address) →
          a.ring.nodes = s.ring.nodes) ∧
        ∀ j n, s.ring.serviceEntry = some j → s.ring.nodes[j]? = some n → n.identity = p.address →
          let read : State := s.modRing fun r => { r with nodes := r.nodes.set j { n with
            unitStatus := if num16 lo hi = 65535 then n.unitStatus else some (num16 lo hi), statusAt := some s.stamp } }
          a.ring.nodes = (if n.kind = .testUnit then read.nodesHeard n.identity else read.ring.nodes) ∧
          (n.kind = .testUnit → n.state = .silent → s.heardNode? n.identity = some n →
            ∀ e ∈ a.cond.entries, e.kind = .nodeSilent → e.subject = n.identity → e.cause = some .ended))) ∧
  (∀ (port : PortId) (bytes : List Byte) (order : List Nat) (g : Telegram) (s : State), s.takes port bytes g →
    s.ring.state ≠ .starting → (∀ p ∈ g.parcels, p.mode ≠ 2 ∧ p.mode ≠ 3) →
    s.ring.roleSent = false ∨ (s.ring.port (otherPort g.origin)).unreturned = true →
    let count := (s.ring.nodes.filter (fun n => n.state != .missing)).length
    let other (p : Nat) : Option Nat := if p ≤ count then some (count + 1 - p) else none
    let filled (n : Node) : Node := match n.posA, n.posB with
      | some p, none => { n with posB := other p }
      | none, some p => { n with posA := other p }
      | _, _ => n
    let keeps (t : State) (i j : Option Nat) : Prop :=
      ∀ k n, i = some k → s.ring.nodes[k]? = some n → ∃ l, j = some l ∧ t.ring.nodes[l]? = some (filled n)
    ∃ t, exec (.telegramReturn port bytes order) s = .next t ∧ s.sameOutsideRing t ∧
      (g.origin = port ∨ g.hops ≠ count → t.ring.nodes = s.ring.nodes) ∧
      (g.origin ≠ port → g.hops = count → t.ring.nodes.Perm (s.ring.nodes.map filled) ∧
        t.ring.nodes.Pairwise Node.standsBefore ∧ keeps t s.ring.roleLast t.ring.roleLast ∧
        keeps t s.ring.statusLast t.ring.statusLast)) ∧
  (∀ (port : PortId) (bytes : List Byte) (order : List Nat) (g : Telegram) (d : Discovery) (s : State),
    s.takes port bytes g → s.ring.state = .starting → s.ring.discovery = some d →
    let shown : Shape := if g.origin = port then .opened else .closed
    let found := (d.side g.origin).found ++ g.parcels.filterMap readIdentify
    let carriers (identity : Nat) : Nat := (found.filter (fun f => f.identity == identity)).length
    ∃ t, exec (.telegramReturn port bytes order) s = .next t ∧ s.sameBase t ∧ t.ring.darkRun = 0 ∧
      (d.shape = .undecided → d.table = none → s.map.valid = true →
        ∃ x, t.ring.discovery = some x ∧ x.shape = shown ∧ t.ring.state = .starting ∧ t.ring.nodes = s.ring.nodes) ∧
      (d.shape ≠ .undecided → d.shape ≠ shown → d.table = none ∨ (∃ p ∈ g.parcels, p.mode = 1) →
        t.ring.discovery = some { shape := shown } ∧ t.ring.state = .starting ∧ t.ring.nodes = s.ring.nodes ∧
        s.sameOutsideRing t) ∧
      (d.shape ≠ .opened → shown = .closed → d.table = none → s.map.valid = true → g.origin = s.ring.closedSide →
        (∀ n ∈ [0, 1, 2, 3], n ∈ (d.side g.origin).groups ∨ g.hops < 16 * n + 1 ∨
          ∃ p ∈ g.parcels, p.mode = 1 ∧ p.address = 16 * n + 1) → (s.map.nodes.map (·.identity)).Nodup →
        ∃ x l, t.ring.discovery = some x ∧ x.shape = .closed ∧ x.table = some l ∧ t.ring.state = .starting ∧
          t.ring.nodes = s.ring.nodes ∧ s.sameOutsideRing t ∧
          (∀ e ∈ l, e.missRun = 0 ∧ e.unitStatus = none ∧ e.statusAt = none) ∧
          (s.map.nodes.length ≤ 64 → l.length ≤ 64) ∧
          (∀ m ∈ s.map.nodes, ∀ f ∈ found, f.identity = m.identity → f.kind = m.kind → carriers m.identity = 1 →
            ∃ e ∈ l, e.identity = m.identity ∧ e.kind = m.kind ∧ e.role = m.role ∧ e.state = .present ∧
              e.position g.origin = some f.position) ∧
          (∀ m ∈ s.map.nodes, (∀ f ∈ found, f.identity ≠ m.identity) →
            ∃ e ∈ l, e.identity = m.identity ∧ e.kind = m.kind ∧ e.role = m.role ∧ e.state = .missing ∧ e.posA = none ∧
              e.posB = none) ∧
          (∀ f ∈ found, (∀ m ∈ s.map.nodes, m.identity = f.identity → m.kind ≠ f.kind) ∨ 2 ≤ carriers f.identity →
            s.raises t .nodeForeign f.identity ∧
            ∀ e ∈ l, e.identity = f.identity → e.state = .foreign ∧ e.role = none)) ∧
      (∀ l i p, d.shape = shown → d.table = some l → g.origin ∈ s.ring.sides shown → s.map.valid = true →
        (∀ id ∈ s.ring.sides shown, id ≠ g.origin → (d.side id).removed = true ∧ (d.side id).todo = []) →
        (d.side g.origin).removed = true → (d.side g.origin).todo = [i] → g.parcels = [p] → p.kind = 2 → p.mode = 2 →
        p.address = i →
        (p.tally ≠ 1 → (∀ e ∈ l, e.identity = i → e.state = .present ∧ e.missRun < 19) →
          t.ring.discovery = some { d with table := some (l.map fun e =>
            if e.identity = i then { e with missRun := e.missRun + 1 } else e) } ∧ t.ring.state = .starting) ∧
        (p.tally = 1 → (∀ u ∈ s.sec.testUnits, u.queue = []) → (s.sec.sections.map (·.number)).Nodup →
          t.ring.nodes = l ∧ t.ring.state = (if shown = .closed then .ring else .line) ∧ t.ring.discovery = none ∧
          (shown = .opened → s.raises t .ringOpen 0) ∧ t.ring.roleTurn = true ∧
          t.ring.roleLast = none ∧ t.ring.statusLast = none ∧ t.sec.feeders = s.sec.feeders ∧
          (∀ e ∈ l, t.nodeState? e.identity = some .missing → s.nodeState? e.identity ≠ some .missing →
            s.raises t .nodeMissing e.identity) ∧
          (∀ e ∈ t.cond.entries, e.kind = .nodeMissing → s.nodeState? e.subject = some .missing →
            t.nodeState? e.subject ≠ some .missing → e.cause = some .ended) ∧
          (s.sec.adoption ≠ .waiting → t.sec = s.sec) ∧
          (s.sec.adoption = .waiting → t.sec.adoption = .running s.time.now ∧ ∀ x ∈ s.sec.sections,
            let absent := ∃ f ∈ x.feeders, ∃ h, s.feeder? f = some h ∧
              (t.nodeState? h.node = some .missing ∨ t.nodeState? h.node = some .silent)
            (x.state = .unsettled → absent → t.section? x.number =
              some { x.plain .lockedOut with lockReason := some .nodeAbsent }) ∧
            (¬(x.state = .unsettled ∧ absent) → t.section? x.number = some x)))))

/-- R87, R129 to R132, R139, R141: the 20th period in a row without a good telegram takes RING and LINE to DOWN and raises
RING_DOWN; in STARTING it only raises it; LINE's RING_OPEN cause ends. The missed settlement that brings a PRESENT node's run to 20
makes it SILENT, raises NODE_SILENT, and leaves each switch point of the unit UNCERTAIN or in FAULT, its baseline not taken; the
feeder records keep their values (R181). That the rows DARK_RUN_LIMIT and NODE_SILENT bring the 20th dark period and the missed
settlement themselves is the model's choice (log 4). What a period leaves unserved is settled as missed at the start of the next
(RING_PERIOD), or, once no telegram with role parcels is out, at the return of the last (TELEGRAM_RETURN), in any order of the
hand-overs: each feeder index a missed sample, each holder's run and each silent test unit's run raised, a missed beacon's pending
count 0; and a RING_PERIOD after no good telegram raises the dark run. The first period after reset settles nothing and leaves the
dark run (log 33). A last telegram that brings a slot has settled its index good first (its samples and reports:
GoodTelegramMovesRing); after it nothing is left to settle. -/
def Obligations.SilenceOnTheRing : Prop :=
  (∀ s : State, s.ring.running = true → s.ring.goodSeen = false → s.ring.darkRun = 19 →
     (s.ring.state = .ring → exec .darkRunLimit s =
       .next (raise .ringDown 0 { s with ring := { s.ring with darkRun := 20, state := .down } })) ∧
     (s.ring.state = .line → exec .darkRunLimit s =
       .next (raise .ringDown 0 (endCause .ringOpen 0 { s with ring := { s.ring with darkRun := 20, state := .down } }))) ∧
     (s.ring.state = .starting → exec .darkRunLimit s =
       .next (raise .ringDown 0 { s with ring := { s.ring with darkRun := 20 } }))) ∧
  (∀ (identity : Nat) (n : Node) (s : State), s.heardNode? identity = some n → n.state = .present → 19 ≤ n.missRun →
     ∃ t, exec (.nodeSilent identity) s = .next t ∧ s.sameBase t ∧ t.reg = s.reg ∧ t.sec.feeders = s.sec.feeders ∧
       t.ring = { s.ring with nodes := s.ring.nodes.map fun x =>
         if x.heard = true ∧ x.identity = identity then
           { x with missRun := if x.missRun < 255 then x.missRun + 1 else 255, state := .silent }
         else x } ∧
       s.showsHolding t .nodeSilent identity ∧
       ∀ w ∈ t.switches, w.node = identity → w.baseline = false ∧ (w.state = .uncertain ∨ w.state = .fault)) ∧
  (∀ (order : List Nat) (s : State), ∃ t, exec (.ringPeriod order) s = .next t ∧ s.sameBase t ∧
     let dark := s.ring.running = true ∧ s.ring.goodSeen = false
     (s.ring.running = true → s.settlesAsMissed t) ∧
     (s.ring.running = false → { t with ring := s.ring } = s ∧ t.ring.nodes = s.ring.nodes) ∧
     t.ring.darkRun = (if dark ∧ s.ring.darkRun < 20 then s.ring.darkRun + 1 else s.ring.darkRun) ∧
     t.ring.state = (if dark ∧ s.ring.darkRun = 19 ∧ (s.ring.state = .ring ∨ s.ring.state = .line) then .down else s.ring.state) ∧
     (dark → s.ring.darkRun = 19 → s.ring.state ≠ .down → s.raises t .ringDown 0) ∧
     (dark → s.ring.darkRun = 19 → s.ring.state = .line →
       ∀ e ∈ t.cond.entries, e.kind = .ringOpen → e.subject = 0 → e.cause = some .ended)) ∧
  (∀ (port : PortId) (bytes : List Byte) (order : List Nat) (g : Telegram) (s : State), s.takes port bytes g →
     s.ring.state ≠ .starting → s.ring.roleSent = true → (s.ring.port (otherPort g.origin)).unreturned = false →
     let a := fillPositions g port s
     ∃ t, exec (.telegramReturn port bytes order) s = .next t ∧ s.sameBase t ∧ t.missedNodes = [] ∧ t.unserved .feeder = [] ∧
       ((∀ p ∈ g.parcels, p.mode ≠ 2 ∧ p.mode ≠ 3) → a.settlesAsMissed t) ∧
       ∀ kind p i slot node, g.parcels = [p] → p.mode = 3 → p.address = kind.code → p.tally ≤ a.holders g port kind → 1 ≤ i →
         p.data = List.replicate (kind.slotSize * (i - 1)) 0 ++ slot → slot.length = kind.slotSize → slotServed kind slot →
         i ∈ a.unserved kind → a.holder? kind i = some node → (a.servedBy kind i node.identity).runsRaised t)

/-! ## Protection -/

/-- R34, R35: a good sample of an IDLE context sets I_prev to the clamped current and miss to 0 and does nothing further than the
intake of every good sample; it gives no trip whatever its current; a missed sample raises miss by one, stopping at 255. -/
def Obligations.IdleContextFollowsCurrent : Prop :=
  ∀ (c : Context) (vehicles : Nat) (i : Int) (v : Nat), c.status = .idle →
    c.good vehicles i v = ({ c with
      iPrev := some (if 6000 < i then 6000 else if i < -6000 then -6000 else i), miss := 0, vLast := some v
      buffer := (c.buffer ++ [if 6000 < i then 6000 else if i < -6000 then -6000 else i]).drop (c.buffer.length - 15) },
      none) ∧
    c.missed = { c with miss := if c.miss < 255 then c.miss + 1 else 255 }

/-- R36 to R39, R43, R44: an ordinary sample starts a rise exactly on a step of D_start or more, with the limit of R37, which the rise
then keeps; it goes on while the step is D_hold or more and K_max is not reached; it trips with cause RISE when the increment has
reached the limit and the rise spans K_min samples. A sample with no I_prev or after 8 missed ones resynchronises: it sets I_prev to
its clamped current and miss to 0, makes the context ARMED, leaves ov and sat at 0, starts no rise and gives no trip. A missed
sample of a BLIND context raises miss alone. A BLIND context becomes ARMED by its section's entry into LIVE with miss kept, stays
BLIND in CLOSING and OPENING, and becomes IDLE in every other state or when its latch is set. -/
def Obligations.RiseComputation : Prop :=
  (∀ (c : Context) (vehicles v : Nat) (i p : Int), c.status = .armed → c.iPrev = some p → c.miss < 8 → -6000 ≤ i →
    i ≤ 6000 →
    (c.rising = false → i - p < c.settings.dStart → (c.good vehicles i v).2 = none →
      (c.good vehicles i v).1.rising = false ∧ (c.good vehicles i v).1.k = c.k ∧ (c.good vehicles i v).1.limit = c.limit) ∧
    (c.rising = false → c.settings.dStart ≤ i - p → (c.good vehicles i v).2 = none →
      (c.good vehicles i v).1.rising = true ∧ (c.good vehicles i v).1.iBase = p ∧ (c.good vehicles i v).1.k = 1 ∧
      (c.good vehicles i v).1.peak = i ∧ (c.good vehicles i v).1.nRise = vehicles ∧
      (c.good vehicles i v).1.limit = min 6000 (c.settings.lBase + c.settings.aVeh * min vehicles 6)) ∧
    (c.rising = true → (c.good vehicles i v).2 = none →
      (c.good vehicles i v).1.limit = c.limit ∧ (c.good vehicles i v).1.iBase = c.iBase ∧
      (c.good vehicles i v).1.nRise = c.nRise ∧ (c.good vehicles i v).1.k = c.k + 1 ∧
      (c.good vehicles i v).1.peak = max c.peak i ∧
      ((c.good vehicles i v).1.rising = true ↔ c.settings.dHold ≤ i - p ∧ c.k + 1 < c.settings.kMax)) ∧
    (c.rising = true → c.settings.dHold ≤ i - p → c.limit ≤ i - c.iBase → c.settings.kMin ≤ c.k + 1 →
      ∃ fig, (c.good vehicles i v).2 = some (.rise, fig) ∧ fig.current = some i ∧ fig.peak = max c.peak i ∧
        fig.deltaI = i - c.iBase ∧ fig.k = c.k + 1 ∧ fig.limit = c.limit ∧ fig.vehicles = c.nRise ∧
        fig.samples.getLast? = some i ∧ (c.good vehicles i v).1.latch = true ∧ (c.good vehicles i v).1.status = .idle)) ∧
  (∀ (c : Context) (vehicles v : Nat) (i : Int), c.status ≠ .idle → c.iPrev = none ∨ 8 ≤ c.miss →
    let cur := max (-6000) (min 6000 i)
    c.good vehicles i v = ({ c with
      iPrev := some cur, vLast := some v, miss := 0, status := .armed, ov := 0, sat := 0
      buffer := (c.buffer ++ [cur]).drop (c.buffer.length - 15) }, none)) ∧
  ∀ c : Context, c.status = .blind →
    c.missed = { c with miss := if c.miss < 255 then c.miss + 1 else 255 } ∧
    ∀ st : SectionState,
      (c.latch = false → st = .live → c.follow st = { c with status := .armed }) ∧
      (c.latch = false → st = .closing ∨ st = .opening → c.follow st = c) ∧
      (c.latch = true ∨ st ∉ [.live, .closing, .opening] → c.follow st = { c with
        status := .idle, rising := false, iBase := 0, k := 0, limit := 0, nRise := 0, peak := 0, ov := 0, sat := 0 })

/-- R36, R38, R40 to R42, R44: RISE_LIMIT ends a rise of K_max samples; OVERCURRENT_RUN and SATURATION_RUN hand the Section Controller
a trip with their cause and the figures of R42; PROTECTION_BLIND makes the context BLIND and raises PROTECTION_BLIND. That each of
these rows brings the sample, or the missed sample, that reaches its limit is the model's choice (log 4). A resynchronising sample,
the section's entry into LIVE and into every state but CLOSING and OPENING, and a latch set by a trip each end BLIND and the cause of
its PROTECTION_BLIND entry. -/
def Obligations.ProtectionEvents : Prop :=
  (∀ (f v : Nat) (i p : Int) (c : Context) (s : State), s.context? f = some c → c.status = .armed → c.iPrev = some p →
    c.miss < 8 → -6000 ≤ i → i ≤ 6000 →
    (c.rising = true → c.settings.dHold ≤ i - p → (i - c.iBase < c.limit ∨ c.k + 1 < c.settings.kMin) →
      c.settings.kMax ≤ c.k + 1 → 1 ≤ c.settings.nOv → (c.settings.iOv ≤ i → c.ov + 1 < c.settings.nOv) →
      (i = 6000 → c.sat = 0) →
      ∃ t, exec (.riseLimit f i v) s = .next t ∧ { t with prot := s.prot } = s ∧
        (∀ g, g ≠ f → t.context? g = s.context? g) ∧ t.context? f = some { c with
          rising := false, k := c.k + 1, peak := max c.peak i, ov := if c.settings.iOv ≤ i then c.ov + 1 else 0
          sat := if i = 6000 then 1 else 0, iPrev := some i, vLast := some v, miss := 0
          buffer := (c.buffer ++ [i]).drop (c.buffer.length - 15) }) ∧
    (c.rising = false → i - p < c.settings.dStart →
      let fig : TripFigures := {
        current := some i, peak := c.peak, deltaI := 0, k := c.k, limit := c.limit, vehicles := c.nRise
        samples := (c.buffer ++ [i]).drop (c.buffer.length - 15) }
      (c.settings.iOv ≤ i → c.settings.nOv ≤ c.ov + 1 →
        exec (.overcurrentRun f i v) s = .next (takeTrip f .overcurrent fig (goodSample f i v s))) ∧
      (i = 6000 → c.sat = 1 → 1 ≤ c.settings.nOv → (c.settings.iOv ≤ i → c.ov + 1 < c.settings.nOv) →
        exec (.saturationRun f i v) s = .next (takeTrip f .saturation fig (goodSample f i v s)))) ∧
    (7 ≤ c.miss → ∃ t, exec (.protectionBlind f) s = .next t ∧ s.sameBase t ∧ t.sec = s.sec ∧ t.switches = s.switches ∧
      t.reg = s.reg ∧ t.ring = s.ring ∧ (∀ g, g ≠ f → t.context? g = s.context? g) ∧
      t.context? f = some { c with miss := c.miss + 1, status := .blind, rising := false, ov := 0, sat := 0 } ∧
      s.showsHolding t .protectionBlind f)) ∧
  ∀ (f : Nat) (c : Context) (s : State), s.context? f = some c → c.status = .blind →
    let ended (t : State) : Prop := ∀ e ∈ t.cond.entries, e.kind = .protectionBlind → e.subject = f → e.cause = some .ended
    (∀ (i : Int) (v : Nat), 8 ≤ c.miss → sampleTrip f i v s = none ∧
      { goodSample f i v s with prot := s.prot, cond := s.cond } = s ∧ ended (goodSample f i v s) ∧
      (∀ g, g ≠ f → (goodSample f i v s).context? g = s.context? g) ∧
      ∃ d, (goodSample f i v s).context? f = some d ∧ d.status = .armed ∧ d.miss = 0 ∧
        d.iPrev = some (max (-6000) (min 6000 i)) ∧ d.ov = 0 ∧ d.sat = 0 ∧ d.rising = c.rising ∧ d.k = c.k) ∧
    (∀ (n : Nat) (x : Section) (dst : SectionState), s.section? n = some x → f ∈ x.feeders → c.latch = false →
      ∃ t d, changeState n dst id s = t ∧ t.context? f = some d ∧
        (dst = .live → d = { c with status := .armed } ∧ ended t) ∧
        (dst = .closing ∨ dst = .opening → d = c) ∧
        (dst ∉ [.live, .closing, .opening] → d.status = .idle ∧ d.rising = false ∧ d.miss = c.miss ∧ d.iPrev = c.iPrev ∧
          ended t)) ∧
    ∃ d, (setContextLatch f s).context? f = some d ∧ d.status = .idle ∧ d.latch = true ∧ ended (setContextLatch f s)

/-! ## Trips -/

/-- R15, R17, R49, R51, R52, R56: a trip taken for a section in LIVE or CLOSING: TRIPPED with the destination of R49's table, a
window opened only on its last line, and a new record that the section refers to. In OPENING and TRIPPED the section's state and
destination stay; in OPENING a new record is made; in TRIPPED the trip becomes the second cause of the referenced record, which is
UNREAD again, or a new record when that one is gone. In all of these the tripping feeder is latched and ordered OPEN, the other
one is ordered OPEN and not latched; TRIP is raised. A new record's intertripped feeder is the other one, unless its order was OPEN
already; in TRIPPED it is absent, whatever the other's order was (R52, log 26). A new record joins the end of the list; of a full
list of 8 the oldest READ record leaves first, or the oldest one, with TRIP_RECORD_OVERRUN, when none is READ. A feeder whose latch
is set gives no trip, and a trip for a section in any other state is not taken. -/
def Obligations.TripEntersTripped : Prop :=
  ∀ (feeder : Nat) (f : Feeder) (x : Section) (cause : TripCause) (fig : TripFigures) (s : State),
    s.feeder? feeder = some f → s.section? f.sect = some x → feeder ∈ x.feeders → x.feeders.length ≤ 2 →
    let made (r : TripRecord) : Prop := r.sect = f.sect ∧ r.feeder = feeder ∧ r.cause = cause ∧ r.figures = fig ∧
      r.second = none ∧ r.outcome = none ∧ r.read = false ∧ r.time = s.stamp ∧ r.presentCount = s.vehicleCount f.sect ∧
      r.watching = true ∧ ((∀ o ∈ x.feeders, o = feeder) ∨ x.state = .tripped → r.intertripped = none) ∧
      ∀ o h, o ∈ x.feeders → o ≠ feeder → s.feeder? o = some h → x.state ≠ .tripped →
        r.intertripped = if h.order = .opens then none else some o
    let joins (t : State) (r : TripRecord) : Prop :=
      (s.sec.trips.length < 8 → t.sec.trips = s.sec.trips ++ [r]) ∧
      (∀ pre q post, 8 ≤ s.sec.trips.length → s.sec.trips = pre ++ q :: post → (∀ p ∈ pre, p.read = false) → q.read = true →
        t.sec.trips = pre ++ post ++ [r]) ∧
      (8 ≤ s.sec.trips.length → (∀ q ∈ s.sec.trips, q.read = false) → t.sec.trips = s.sec.trips.drop 1 ++ [r] ∧
        ((∃ e ∈ t.cond.entries, e.kind = .tripRecordOverrun ∧ e.subject = 0 ∧ e.last = s.stamp) ∨ 48 ≤ s.cond.entries.length))
    let ordered (t : State) : Prop := s.sameBase t ∧ t.reg = s.reg ∧ t.ring = s.ring ∧
      (∃ g, t.feeder? feeder = some g ∧ g.latch = true ∧ g.order = .opens ∧ g.breaker = f.breaker ∧
        g.orderStart = if f.order = .opens then f.orderStart else some s.stamp) ∧
      (∀ o h, o ∈ x.feeders → o ≠ feeder → s.feeder? o = some h →
        t.feeder? o = some (if h.order = .opens then h
          else { h with order := .opens, orderStart := some s.stamp, confirming := true })) ∧
      ((∃ e ∈ t.cond.entries, e.kind = .trip ∧ e.subject = f.sect ∧ e.last = s.stamp) ∨ 48 ≤ s.cond.entries.length ∨
        (8 ≤ s.sec.trips.length ∧ 48 ≤ t.cond.entries.length))
    (f.latch = true → takeTrip feeder cause fig s = s) ∧
    (x.state ∉ [.live, .closing, .opening, .tripped] → takeTrip feeder cause fig s = s) ∧
    (f.latch = false → x.state = .live ∨ x.state = .closing →
      let onFault := x.origin = some .energise ∧ (x.state = .closing ∨
        ∃ st, x.liveSince = some st ∧ st.aged = false ∧ (s.time.now - st.t).toNat < 1000)
      let noReclose := x.settings.rMax = 0 ∨ (x.test = none ∧ x.settings.blind = false)
      let atLimit := x.window ≠ .closed ∧ x.settings.rMax ≤ x.attempts
      ∃ t y r, takeTrip feeder cause fig s = t ∧ ordered t ∧ made r ∧ r.referenced = true ∧ joins t r ∧
        t.section? f.sect = some y ∧ s.otherSections t f.sect ∧ y.state = .tripped ∧ y.origin = none ∧ y.liveSince = none ∧
        y.attempts = x.attempts ∧ y.cancel = false ∧
        (onFault → y.destination = some (.lockedOut .switchOnFault)) ∧
        (¬ onFault → noReclose → y.destination = some (.lockedOut .noReclose)) ∧
        (¬ onFault → ¬ noReclose → atLimit → y.destination = some (.lockedOut .tripLimit)) ∧
        (¬ onFault → ¬ noReclose → ¬ atLimit → y.destination = some .recloseWait ∧ y.window ≠ .closed) ∧
        (onFault ∨ noReclose ∨ x.window ≠ .closed → y.window = x.window ∧ y.windowStart = x.windowStart) ∧
        (¬ onFault → ¬ noReclose → x.window = .closed → y.window = .opened ∧ y.windowStart = some s.stamp)) ∧
    (f.latch = false → x.state = .opening → ∃ t r, takeTrip feeder cause fig s = t ∧ ordered t ∧
      t.sec.sections = s.sec.sections ∧ t.switches = s.switches ∧ made r ∧ r.referenced = false ∧ joins t r) ∧
    (f.latch = false → x.state = .tripped → ∃ t, takeTrip feeder cause fig s = t ∧ ordered t ∧
      t.sec.sections = s.sec.sections ∧ t.switches = s.switches ∧
      ((∃ q ∈ s.sec.trips, q.sect = f.sect ∧ q.referenced = true) → t.sec.trips = s.sec.trips.map fun q =>
        if q.sect = f.sect ∧ q.referenced = true then
          { q with second := some { feeder := feeder, cause := cause }, read := false }
        else q) ∧
      ((∀ q ∈ s.sec.trips, ¬(q.sect = f.sect ∧ q.referenced = true)) → ∃ r, made r ∧ r.referenced = false ∧ joins t r))

/-- R8 to R10, R13, R14, R16, R18, R27, R45, R50, R53: a good feeder slot. The one that leaves every feeder of a CLOSING section
CLOSED takes it LIVE; the one that ends the last OPEN order of a TRIPPED section takes it to RECLOSE_WAIT with its delay started;
one that shows CLOSED or TRAVELLING where no order stands and the section is to stay open gives the feeder OPEN. The one that leaves
every feeder of an UNSETTLED section with a known breaker adopts it: all CLOSED as LIVE with origin ADOPTION, every context that is
not latched ARMED and no CLOSE sent, or, under emergency, OPENING to DEAD; all OPEN as DEAD; any other mix as OPENING to DEAD, with
OPEN on every feeder; while another is UNKNOWN the section stays UNSETTLED. An own-release advance, and in LIVE and CLOSING a
CLOSED breaker that shows OPEN or TRAVELLING, is a trip with the context's own figures, taken first; then the report is stored, and
the trip's OPEN order ended at once if the slot reports OPEN, a section with no other feeder entering its destination in that
handling. A slot whose sample tripped in the Protection Unit stores its report but leaves the order that trip gave to a later slot;
the one that ends the last OPEN order of an OPENING section still takes it to its destination, though the trip gave the other
feeder OPEN again (log 26). -/
def Obligations.FeederReportRule : Prop :=
  (∀ (n : Nat) (f : Feeder) (x : Section) (count : Byte) (s : State), s.feeder? n = some f → s.section? f.sect = some x →
    n ∈ x.feeders → (f.ownRelease = none ∨ f.ownRelease = some count) →
    (x.state = .closing → f.order ≠ .opens → (∀ m ∈ x.feeders, m ≠ n → ∃ g, s.feeder? m = some g ∧ g.breaker = .closed) →
      ∃ t y, feederReport n .closed count s = t ∧ s.sameBase t ∧ t.section? f.sect = some y ∧ s.otherSections t f.sect ∧
        y.state = .live ∧ y.origin = x.origin ∧ y.liveSince = some s.stamp ∧ y.closingSince = none ∧
        (∀ m ∈ x.feeders, ∀ g, t.feeder? m = some g → g.order = .idle ∧ g.orderStart = none ∧ g.breaker = .closed) ∧
        t.sec.trips.length = s.sec.trips.length) ∧
    (x.state = .tripped → x.destination = some .recloseWait → f.order = .opens →
      (∀ m ∈ x.feeders, m ≠ n → ∃ g, s.feeder? m = some g ∧ g.order ≠ .opens) →
      ∃ t y g, feederReport n .opened count s = t ∧ s.sameBase t ∧ t.section? f.sect = some y ∧ s.otherSections t f.sect ∧
        y = { x.plain .recloseWait with delayStart := some s.time.now } ∧
        t.feeder? n = some g ∧ g.order = .idle ∧ g.breaker = .opened ∧ g.ownRelease = some count ∧ g.latch = f.latch ∧
        t.switches = s.switches) ∧
    (∀ b, b = .closed ∨ b = .travelling → x.state ∈ [.dead, .recloseWait, .testing, .lockedOut] → f.order = .idle →
      ∃ t, feederReport n b count s = t ∧ s.sameBase t ∧ t.sec.sections = s.sec.sections ∧ t.sec.trips = s.sec.trips ∧
        t.feeder? n = some { f with
          breaker := b, ownRelease := some count, order := .opens, orderStart := some s.stamp, confirming := true }) ∧
    (∀ b, x.state = .unsettled → b ≠ .unknown →
      let others (p : Breaker → Prop) : Prop := ∀ m ∈ x.feeders, m ≠ n → ∃ g, s.feeder? m = some g ∧ p g.breaker
      let opening := { x.plain .opening with destination := some .dead }
      ∃ t y, feederReport n b count s = t ∧ s.sameBase t ∧ t.section? f.sect = some y ∧ s.otherSections t f.sect ∧
        t.reg = s.reg ∧ t.ring = s.ring ∧ t.sec.adoption = s.sec.adoption ∧
        (∃ g, t.feeder? n = some g ∧ g.breaker = b ∧ g.ownRelease = some count ∧ g.latch = f.latch) ∧
        (b = .closed → others (· = .closed) → s.sec.emergency = false →
          y.state = .live ∧ y.origin = some .adoption ∧ y.liveSince = some s.stamp ∧ y.feeders = x.feeders ∧
          (∀ m ∈ x.feeders, ∀ g, t.feeder? m = some g → g.order = .idle) ∧
          ∀ m ∈ x.feeders, ∀ c, s.context? m = some c → c.latch = false → ∃ e, t.context? m = some e ∧ e.status = .armed) ∧
        (b = .closed → others (· = .closed) → s.sec.emergency = true → y = opening ∧
          ∀ m ∈ x.feeders, ∀ g, t.feeder? m = some g → g.order = .opens) ∧
        (b = .opened → others (· = .opened) → y = x.plain .dead ∧ t.switches = s.switches) ∧
        (others (· ≠ .unknown) → ¬(b = .closed ∧ others (· = .closed)) → ¬(b = .opened ∧ others (· = .opened)) →
          y = opening ∧ ∀ m ∈ x.feeders, ∀ g, t.feeder? m = some g → g.order = .opens) ∧
        ((∃ m ∈ x.feeders, m ≠ n ∧ ∃ g, s.feeder? m = some g ∧ g.breaker = .unknown) →
          y = x ∧ t.sec.trips = s.sec.trips ∧ t.switches = s.switches ∧ t.prot = s.prot))) ∧
  ∀ (n : Nat) (f : Feeder) (x : Section) (b : Breaker) (count : Byte) (s : State), s.feeder? n = some f →
    s.section? f.sect = some x → n ∈ x.feeders → x.feeders.length ≤ 2 → f.latch = false →
    let stored (g : Feeder) : Feeder := { g with
      breaker := b, ownRelease := some count, health := if b = .opened ∧ g.health = .failToOpen then .ok else g.health }
    let advanced := ∃ k, f.ownRelease = some k ∧ k ≠ count
    let enters (y z : Section) : Prop := match y.destination with
      | some .dead => z.state = .dead
      | some (.lockedOut reason) => z.state = .lockedOut ∧ z.lockReason = some reason
      | some .recloseWait => z.state = .recloseWait ∧ z.delayStart = some s.time.now
      | none => True
    (∀ c cause, s.context? n = some c →
      (x.state = .live ∨ x.state = .closing) ∧ f.order ≠ .opens ∧
          ((advanced ∧ cause = .ownRelease) ∨
            (¬ advanced ∧ f.breaker = .closed ∧ (b = .opened ∨ b = .travelling) ∧ cause = .unexpectedOpen)) ∨
        (x.state = .opening ∨ x.state = .tripped) ∧ advanced ∧ cause = .ownRelease →
      ∃ t u g, feederReport n b count s = t ∧ s.sameBase t ∧
        u = takeTrip n cause { current := c.iPrev, peak := c.peak, deltaI := 0, k := c.k, limit := c.limit
                               vehicles := s.vehicleCount f.sect, samples := c.buffer } s ∧
        u.feeder? n = some g ∧ g.order = .opens ∧
        (b ≠ .opened → t.feeder? n = some (stored g) ∧ t.sec.sections = u.sec.sections ∧ t.sec.trips = u.sec.trips) ∧
        (b = .opened → t.feeder? n = some { stored g with order := .idle, orderStart := none, confirming := false } ∧
          t.sec.trips.length = u.sec.trips.length ∧
          (∀ m ∈ x.feeders, m ≠ n → t.feeder? m = u.feeder? m) ∧
          ((∃ m ∈ x.feeders, m ≠ n ∧ (s.feeder? m).isSome = true) → t.sec.sections = u.sec.sections ∧
            t.sec.trips = u.sec.trips) ∧
          (x.feeders = [n] → ∃ y z, u.section? f.sect = some y ∧ t.section? f.sect = some z ∧ enters y z))) ∧
    ∀ (cause : TripCause) (fig : TripFigures),
      let u := takeTrip n cause fig s
      let t := feederReportAs (slotKind n s) n b count u
      (x.state = .live ∨ x.state = .closing ∨ x.state = .tripped → f.order ≠ .opens →
        ∃ g y, u.feeder? n = some g ∧ g.order = .opens ∧ t.feeder? n = some (stored g) ∧ s.sameBase t ∧
          t.sec.sections = u.sec.sections ∧ t.sec.trips = u.sec.trips ∧ t.section? f.sect = some y ∧ y.state = .tripped) ∧
      (x.state = .opening → f.order = .opens → (∀ m ∈ x.feeders, m ≠ n → ∃ g, s.feeder? m = some g ∧ g.order ≠ .opens) →
        (∀ m ∈ x.feeders, m ≠ n → ∃ g, t.feeder? m = some g ∧ g.order = .opens) ∧
        (b = .opened → ∃ g z, t.feeder? n = some g ∧ g.order = .idle ∧ g.breaker = .opened ∧
          t.section? f.sect = some z ∧ enters x z) ∧
        (b ≠ .opened → t.feeder? n = some (stored { f with latch := true }) ∧ t.sec.sections = s.sec.sections))

/-! ## Timers -/

/-- R9, R11, R13, R28: 300 ms in CLOSING without every breaker CLOSED opens the section to LOCKED_OUT, FAIL_TO_CLOSE, with OPEN on
every feeder and FAIL_TO_CLOSE on those not CLOSED; one of those that was FAIL_TO_OPEN loses that health, so its BREAKER_FAIL
cause ends (R144); 100 ms of an OPEN order make the feeder FAIL_TO_OPEN and raise BREAKER_FAIL while the order goes on. At the
adoption deadline every section still UNSETTLED is LOCKED_OUT with NODE_ABSENT, every other section stays as it is, and adoption
is over; no breaker is ordered. That a row met before its timer has run out changes nothing is the model's choice (log 3). -/
def Obligations.ConfirmationAndAdoptionTimeouts : Prop :=
  (∀ (n : Nat) (x : Section) (f : Feeder) (since : Time) (st : Stamp) (s : State),
     (s.section? n = some x → x.state = .closing → x.closingSince = some since →
       ((s.time.now - since).toNat < 300 → exec (.closeConfirmTimeout n) s = .next s) ∧
       (300 ≤ (s.time.now - since).toNat → ∃ t, exec (.closeConfirmTimeout n) s = .next t ∧ s.sameBase t ∧
         t.section? n = some { x.plain .opening with destination := some (.lockedOut .failToClose) } ∧ s.otherSections t n ∧
         (∀ m ∈ x.feeders, ∀ g, s.feeder? m = some g → ∃ h, t.feeder? m = some h ∧ h.order = .opens ∧ h.breaker = g.breaker ∧
           h.health = (if g.breaker = .closed then g.health else .failToClose) ∧
           h.orderStart = (if g.order = .opens then g.orderStart else some s.stamp) ∧
           (g.health = .failToOpen → g.breaker ≠ .closed →
             ∀ e ∈ t.cond.entries, e.kind = .breakerFail → e.subject = m → e.cause = some .ended)) ∧
         (∀ m, m ∉ x.feeders → t.feeder? m = s.feeder? m) ∧ t.sec.trips = s.sec.trips ∧ t.switches = s.switches ∧
         t.reg = s.reg ∧ t.ring = s.ring ∧ t.link = s.link ∧ s.cond.sameButCauses t.cond)) ∧
     (s.feeder? n = some f → f.order = .opens → f.confirming = true → f.orderStart = some st →
       ((s.time.now - st.t).toNat < 100 → exec (.openConfirmTimeout n) s = .next s) ∧
       (100 ≤ (s.time.now - st.t).toNat → exec (.openConfirmTimeout n) s = .next
         (raise .breakerFail n (s.modFeeder n fun g => { g with health := .failToOpen, confirming := false }))))) ∧
  (∀ (since : Time) (s : State), s.sec.adoption = .running since → (s.sec.sections.map (·.number)).Nodup →
     ((s.time.now - since).toNat < 1000 → exec .adoptionDeadline s = .next s) ∧
     (1000 ≤ (s.time.now - since).toNat → ∃ t, exec .adoptionDeadline s = .next t ∧ s.sameBase t ∧ t.sec.adoption = .over ∧
       (∀ x ∈ s.sec.sections, t.section? x.number = some (if x.state = .unsettled then
         { x.plain .lockedOut with lockReason := some .nodeAbsent } else x)) ∧
       t.sec.feeders = s.sec.feeders ∧ t.switches = s.switches ∧ t.reg = s.reg ∧ t.ring = s.ring))

/-- R60, R61, R62, R64, R65, R71: at the expiry of the reclose delay: LOCKED_OUT for a vehicle suspect; otherwise TESTING at the end
of the test unit's queue, the test ordered when the queue was empty, or, with the test unit's node not PRESENT, ended at once
with TIMEOUT, one more test used and RECLOSE_WAIT again or, at the third, LOCKED_OUT with TEST_UNAVAILABLE; otherwise CLOSING by
blind reclose, one more attempt used, or, with a feeder's node not PRESENT, LOCKED_OUT with NODE_ABSENT. That the row met before
D_rc has run out changes nothing is the model's choice (log 3). -/
def Obligations.RecloseDelayRule : Prop :=
  ∀ (n : Nat) (x : Section) (d : Time) (s : State), s.section? n = some x → x.state = .recloseWait →
    x.delayStart = some d →
    let suspect := ∃ v ∈ s.reg.vehicles, v.inSight = true ∧ v.sect = some n ∧
      ∃ e ∈ v.faults, e.kind = .insulation ∨ e.kind = .dewired
    ((s.time.now - d).toNat < 100 * x.settings.delay → exec (.recloseDelayExpiry n) s = .next s) ∧
    (100 * x.settings.delay ≤ (s.time.now - d).toNat →
      (suspect → ∃ t, exec (.recloseDelayExpiry n) s = .next t ∧ s.sameBase t ∧ s.otherSections t n ∧
        t.section? n = some { x.plain .lockedOut with lockReason := some .vehicleSuspect } ∧
        t.sec.feeders = s.sec.feeders ∧ t.sec.testUnits = s.sec.testUnits ∧ s.showsHolding t .lockout n) ∧
      (∀ c u, ¬ suspect → x.test = some c → s.testUnit? c.unit = some u → u.queue = [] → s.nodePresent u.node = true →
        ∃ t, exec (.recloseDelayExpiry n) s = .next t ∧ s.sameBase t ∧ s.otherSections t n ∧
          t.section? n = some (x.plain .testing) ∧ t.sec.feeders = s.sec.feeders ∧ t.sec.trips = s.sec.trips ∧
          t.testUnit? c.unit = some { u with
            queue := [n], testNumber := u.testNumber + 1, phase := .ordered, orderedAt := some s.time.now }) ∧
      (∀ c u m rest, ¬ suspect → x.test = some c → s.testUnit? c.unit = some u → u.queue = m :: rest →
        ∃ t, exec (.recloseDelayExpiry n) s = .next t ∧ s.sameBase t ∧ s.otherSections t n ∧
          t.section? n = some (x.plain .testing) ∧
          t.testUnit? c.unit = some { u with queue := m :: (rest ++ [n]) }) ∧
      (∀ c u, ¬ suspect → x.test = some c → s.testUnit? c.unit = some u → u.queue = [] → s.nodePresent u.node = false →
        ∃ t, exec (.recloseDelayExpiry n) s = .next t ∧ s.sameBase t ∧ s.otherSections t n ∧
          t.section? n = some (if x.testsUsed < 2 then { x.plain .recloseWait with
              delayStart := some s.time.now, testsUsed := x.testsUsed + 1, lastTest := some { kind := .timeout } }
            else { x.plain .lockedOut with
              lockReason := some .testUnavailable, testsUsed := x.testsUsed + 1, lastTest := some { kind := .timeout } }) ∧
          t.testUnit? c.unit = some { u with testNumber := u.testNumber + 1, phase := .idle, orderedAt := none } ∧
          t.sec.feeders = s.sec.feeders ∧ (2 ≤ x.testsUsed → s.showsHolding t .lockout n)) ∧
      (¬ suspect → x.test = none → s.nodesPresent x = false →
        ∃ t, exec (.recloseDelayExpiry n) s = .next t ∧ s.sameBase t ∧ s.otherSections t n ∧
          t.section? n = some { x.plain .lockedOut with lockReason := some .nodeAbsent } ∧
          t.sec.feeders = s.sec.feeders ∧ s.showsHolding t .lockout n) ∧
      (¬ suspect → x.test = none → s.nodesPresent x = true →
        ∃ t, exec (.recloseDelayExpiry n) s = .next t ∧ s.sameBase t ∧ s.otherSections t n ∧
          t.section? n = some { x.plain .closing with
            origin := some .reclose, closingSince := some s.time.now, attempts := x.attempts + 1, testsUsed := 0 } ∧
          ∀ f ∈ x.feeders, ∀ g, t.feeder? f = some g → g.order = .close ∧ g.latch = false))

/-- R66, R67, R68, R69, R70, R71: how the head's test ends. A report with another test number is ignored, and INJECTING moves the
phase on. A result that passes takes the section to CLOSING by reclose, one attempt used and the tests used 0, or, with a feeder's
node not PRESENT, to LOCKED_OUT with NODE_ABSENT; one that does not pass uses one more test and takes it to RECLOSE_WAIT again or,
at the third, to LOCKED_OUT, with TEST_FAILED after FAIL and TEST_UNAVAILABLE otherwise, LOCKOUT being raised for a head in TESTING,
as every queued section is (StepKeepsRecloseLimit); a refusal for a live line ends the test as LIVE_LINE. The result is stored, and
the next section of the queue has its test ordered while the unit's node is PRESENT. A stopped test ends on any report but
INJECTING, and the section is DEAD with its last result kept. 1 s after its order the test ends so with TIMEOUT, or as a stopped
test. The result of readings is as R69's table has it. -/
def Obligations.TestEndRule : Prop :=
  (∀ (k n : Nat) (u : TestUnit) (x : Section) (o : Time) (s : State), s.testUnit? k = some u → u.queue = [n] →
    u.orderedAt = some o → s.section? n = some x → 1000 ≤ (s.time.now - o).toNat →
    (u.phase = .ordered ∨ u.phase = .injecting → x.stop = false → x.testsUsed < 2 →
      ∃ t, exec (.testTimeout k) s = .next t ∧ s.sameBase t ∧ s.otherSections t n ∧
        t.section? n = some { x.plain .recloseWait with
          delayStart := some s.time.now, testsUsed := x.testsUsed + 1, lastTest := some { kind := .timeout } } ∧
        t.testUnit? k = some { u with queue := [], phase := .idle, orderedAt := none } ∧ t.sec.feeders = s.sec.feeders) ∧
    (u.phase = .ordered ∨ u.phase = .injecting → x.stop = false → x.testsUsed = 2 →
      ∃ t, exec (.testTimeout k) s = .next t ∧ s.sameBase t ∧ s.otherSections t n ∧
        t.section? n = some { x.plain .lockedOut with
          lockReason := some .testUnavailable, testsUsed := 3, lastTest := some { kind := .timeout } } ∧
        t.testUnit? k = some { u with queue := [], phase := .idle, orderedAt := none } ∧
        (x.state = .testing → s.showsHolding t .lockout n)) ∧
    (u.phase = .stopping → ∃ t, exec (.testTimeout k) s = .next t ∧ s.sameBase t ∧ s.otherSections t n ∧
      t.section? n = some (x.plain .dead) ∧ t.testUnit? k = some { u with queue := [], phase := .idle, orderedAt := none } ∧
      t.sec.feeders = s.sec.feeders)) ∧
  (∀ (k n : Nat) (rest : List Nat) (u : TestUnit) (x : Section) (r : TestReport) (s : State), s.testUnit? k = some u →
    u.queue = n :: rest → s.section? n = some x →
    (∀ number, number ≠ u.testNumber → testReportArrives k number r s = s) ∧
    (u.phase = .ordered → testReportArrives k u.testNumber .injecting s =
      s.modTestUnit k fun v => { v with phase := .injecting }) ∧
    (∀ q : TestResult, x.stop = false → rest = [] ∨ s.nodePresent u.node = true → n ∉ rest →
      (∃ vSup vSec, r = .result vSup vSec ∧ (u.phase = .ordered ∨ u.phase = .injecting) ∧
          q = readingsResult u.rTest x.settings.rClear vSup vSec) ∨
        (∃ v, r = .liveLine v ∧ u.phase = .ordered ∧ q = { kind := .liveLine, vSec := some v }) →
      ∃ t, testReportArrives k u.testNumber r s = t ∧ s.sameBase t ∧ s.otherSections t n ∧ t.reg = s.reg ∧ t.ring = s.ring ∧
        t.testUnit? k = some (match rest with
          | [] => { u with queue := [], phase := .idle, orderedAt := none }
          | _ => { u with queue := rest, testNumber := u.testNumber + 1, phase := .ordered, orderedAt := some s.time.now }) ∧
        (q.kind = .pass → s.nodesPresent x = true →
          t.section? n = some { x.plain .closing with
            origin := some .reclose, closingSince := some s.time.now, attempts := x.attempts + 1, testsUsed := 0
            lastTest := some q } ∧
          ∀ m ∈ x.feeders, ∀ g, t.feeder? m = some g → g.order = .close ∧ g.latch = false) ∧
        (q.kind = .pass → s.nodesPresent x = false → t.sec.feeders = s.sec.feeders ∧
          t.section? n = some { x.plain .lockedOut with lockReason := some .nodeAbsent, lastTest := some q }) ∧
        (q.kind ≠ .pass → t.sec.feeders = s.sec.feeders ∧ t.section? n = some (if x.testsUsed < 2 then
            { x.plain .recloseWait with
              delayStart := some s.time.now, testsUsed := x.testsUsed + 1, lastTest := some q }
          else
            { x.plain .lockedOut with
              lockReason := some (if q.kind = .fail then .testFailed else .testUnavailable)
              testsUsed := x.testsUsed + 1, lastTest := some q }))) ∧
    (u.phase = .stopping → r ≠ .injecting → rest = [] → ∃ t, testReportArrives k u.testNumber r s = t ∧ s.sameBase t ∧
      s.otherSections t n ∧ t.section? n = some (x.plain .dead) ∧ t.sec.feeders = s.sec.feeders ∧
      t.testUnit? k = some { u with queue := [], phase := .idle, orderedAt := none })) ∧
  (∀ rTest rClear vSup vSec : Nat,
    (vSup < 400 → readingsResult rTest rClear vSup vSec = { kind := .noSupply, vSup := some vSup, vSec := some vSec }) ∧
    (400 ≤ vSup → ∃ r, readingsResult rTest rClear vSup vSec =
        { kind := if rClear ≤ r then .pass else .fail, resistance := some r, vSup := some vSup, vSec := some vSec } ∧
      (vSup ≤ vSec → r = 9999) ∧
      (vSec < vSup → r = if 9999 * (vSup - vSec) ≤ rTest * vSec then 9999 else rTest * vSec / (vSup - vSec))))

/-- R1, R54, R59: the expiry of W closes the window of a LIVE section and makes any other section's EXPIRED; 2000 ms after the trip
a record no longer watches (that the watch ends as soon as the row is taken in that millisecond is the model's choice, log 58).
TIMESTAMP_AGED marks as aged each stored timestamp that starts no running timer and lies 2^31 ms back; the timestamp keeps its value
and nothing else changes. Which stamps start a running timer is read from the rules by inference (log 32): the start of an OPEN
window, a feeder's order start in its open confirmation time, the time of a trip record that watches, the created time of a request
not in passage, the last seen of a vehicle IN_SIGHT; live since, the times of fault entries, a node's status read at, and the times
of conditions and of the overflow entry start none. -/
def Obligations.WindowWatchAndAge : Prop :=
  (∀ (n : Nat) (x : Section) (st : Stamp) (s : State), s.section? n = some x → x.window = .opened → x.windowStart = some st →
    1000 * x.settings.window ≤ (s.time.now - st.t).toNat →
    ∃ t, exec (.windowExpiry n) s = .next t ∧ { t with sec := { t.sec with sections := s.sec.sections } } = s ∧
      s.otherSections t n ∧ t.section? n = some (if x.state = .live then
        { x with window := .closed, windowStart := none, attempts := 0 } else { x with window := .expired })) ∧
  (∀ (i : Nat) (r : TripRecord) (s : State), s.sec.trips[i]? = some r → r.watching = true →
    2000 ≤ (s.time.now - r.time.t).toNat →
    exec (.suspectWatchEnd (i + 1)) s = .next
      { s with sec := { s.sec with trips := s.sec.trips.set i { r with watching := false } } }) ∧
  (∀ s : State,
    let mark (st : Stamp) : Stamp := if 2147483648 ≤ (s.time.now - st.t).toNat then { st with aged := true } else st
    let entry (e : CondEntry) : CondEntry := { e with first := mark e.first, last := mark e.last }
    exec .timestampAged s = .next { s with
      sec := { s.sec with
        sections := s.sec.sections.map fun x => { x with
          liveSince := x.liveSince.map mark
          windowStart := if x.window = .opened then x.windowStart else x.windowStart.map mark }
        feeders := s.sec.feeders.map fun f => { f with
          orderStart := if f.confirming = true then f.orderStart else f.orderStart.map mark }
        trips := s.sec.trips.map fun r => { r with time := if r.watching = true then r.time else mark r.time } }
      switches := s.switches.map fun w => { w with queue := w.queue.map fun r => { r with
        created := if r.inPassage = true then mark r.created else r.created } }
      reg := { s.reg with vehicles := s.reg.vehicles.map fun v => { v with
        lastSeen := if v.inSight = true then v.lastSeen else mark v.lastSeen
        faults := v.faults.map fun e => { e with firstSeen := mark e.firstSeen, lastSeen := mark e.lastSeen } } }
      ring := { s.ring with nodes := s.ring.nodes.map fun n => { n with statusAt := n.statusAt.map mark } }
      cond := { s.cond with entries := s.cond.entries.map entry, overflow := s.cond.overflow.map entry } })

/-- R76, R81, R82, R85, R86, R88, R89, R96, R114: a throw times out to FAULT with THROW_TIMEOUT when the unit was heard and to
UNCERTAIN when it was not; a request not in passage leaves at its age limit; HOLD_LONG is raised once for a head held at STOP; a
vehicle goes OUT_OF_SIGHT and its requests leave every queue. A good slot that counts no vehicle leaves the counts and the
baseline taken and judges the contacts by the state: the target's contact completes a throw, and one contact settles an UNCERTAIN
switch point whose supply section is LIVE, with the throw decision after it; both contacts leave FAULT with CONTACTS_BOTH, and
none in UNCERTAIN, or a second slot in a row off the position in SET, with DISCREPANCY; in FAULT they are not watched. That a throw
row before T_throw changes nothing is the model's choice (log 3); that the discrepancy run is 0 on entering UNCERTAIN (log 31) and
that a request's expiry whose decision starts a throw keeps the position (log 45) are read from the spec by inference. -/
def Obligations.SwitchAndSightTimeouts : Prop :=
  (∀ (n : Nat) (w : SwitchPoint) (th : Throw) (s : State), s.switch? n = some w → w.state = .moving → w.throw = some th →
    ((s.time.now - th.start).toNat < 100 * w.tThrow → exec (.throwTimeout n) s = .next s) ∧
    (100 * w.tThrow ≤ (s.time.now - th.start).toNat → ∃ t u, exec (.throwTimeout n) s = .next t ∧ s.sameButSwitches t ∧
      s.otherSwitches t n ∧ t.switch? n = some u ∧
      u = { w with
        state := if th.seen then .fault else .uncertain, position := none, throw := none, discrepancy := 0
        fault := if th.seen then some .throwTimeout else w.fault, aspect := .stop, holdLong := u.holdLong } ∧
      (th.seen = true → s.showsHolding t .switchFault n))) ∧
  (∀ (n v : Nat) (w : SwitchPoint) (r : SwitchRequest) (s : State), s.switch? n = some w → r ∈ w.queue → r.vehicle = v →
    r.inPassage = false → 1000 * s.map.tReq ≤ (s.time.now - r.created.t).toNat →
    ∃ t u, exec (.requestExpiry n v) s = .next t ∧ s.sameButSwitches t ∧ s.otherSwitches t n ∧ t.switch? n = some u ∧
      u.queue = w.queue.filter (fun q => q.vehicle != v) ∧ u.pin = w.pin ∧ u.zone = w.zone ∧ u.position = w.position) ∧
  (∀ (n : Nat) (w : SwitchPoint) (since : Time) (s : State), s.switch? n = some w → w.headSince = some since →
    w.aspect = .stop → 1000 * s.map.tHold ≤ (s.time.now - since).toNat →
    (w.holdLong = false → exec (.holdLong n) s =
      .next (raise .holdLong n (s.modSwitch n fun u => { u with holdLong := true }))) ∧
    (w.holdLong = true → exec (.holdLong n) s = .next s)) ∧
  (∀ (n : Nat) (v : Vehicle) (s : State), s.vehicle? n = some v → v.inSight = true →
    (v.lastSeen.aged = true ∨ 1000 * s.map.tSight ≤ (s.time.now - v.lastSeen.t).toNat) →
    ∃ t, exec (.sightTimeout n) s = .next t ∧ s.sameBase t ∧ t.sec = s.sec ∧ t.prot = s.prot ∧ t.ring = s.ring ∧
      t.reg.beacons = s.reg.beacons ∧
      t.reg.vehicles = s.reg.vehicles.map (fun x => if x.number = n then { x with inSight := false, sect := none } else x) ∧
      t.switches.map (fun w => (w.number, w.queue)) =
        s.switches.map (fun w => (w.number, w.queue.filter (fun r => r.vehicle != n)))) ∧
  (∀ (n : Nat) (r : SwitchReport) (w : SwitchPoint) (s : State), s.switch? n = some w →
    w.baseline = false ∨ (r.entries = w.entries ∧ r.exits = w.exits ∧ r.dewirements = w.dewirements) →
    let v : SwitchPoint := { w with
      throw := w.throw.map (fun th => { th with seen := true })
      entries := r.entries, exits := r.exits, dewirements := r.dewirements, baseline := true }
    let becomes (x : SwitchPoint) : Prop := ∃ t h, switchSlot n r s = t ∧ s.sameButSwitches t ∧ s.otherSwitches t n ∧
      t.switch? n = some { x with aspect := x.aspectNow, holdLong := h } ∧ (w.holdLong = true → h = true) ∧
      (x.state = .fault → w.state ≠ .fault → s.showsHolding t .switchFault n)
    let settles (l : Leg) : Prop :=
      let x : SwitchPoint := { v with state := .set, position := some l, throw := none, discrepancy := 0 }
      (∀ m, w.target? = some m → m ≠ l → w.zone = 0 → s.supplyLive w = true →
        becomes { x with state := .moving, throw := some { target := m, start := s.time.now, seen := false } }) ∧
      (w.target? = none ∨ w.target? = some l ∨ w.zone ≠ 0 ∨ s.supplyLive w = false → becomes x)
    let faults (reason : FaultReason) : Prop := becomes { v with
      state := .fault, position := none, throw := none, discrepancy := 0, fault := some reason }
    (∀ th, w.state = .moving → w.throw = some th → (r.contacts.leg? = some th.target → settles th.target) ∧
      (r.contacts = .both → faults .contactsBoth) ∧
      (r.contacts ≠ .both → r.contacts.leg? ≠ some th.target → becomes v)) ∧
    (w.state = .uncertain → s.supplyLive w = true → (∀ l, r.contacts.leg? = some l → settles l) ∧
      (r.contacts = .both → faults .contactsBoth) ∧ (r.contacts = .none → faults .discrepancy)) ∧
    (w.state = .uncertain → s.supplyLive w = false → becomes v) ∧
    (w.state = .set → (r.contacts = .both → faults .contactsBoth) ∧
      (∀ l, r.contacts.leg? = some l → w.position = some l → becomes { v with discrepancy := 0 }) ∧
      (r.contacts ≠ .both → (∀ l, r.contacts.leg? = some l → w.position ≠ some l) →
        (w.discrepancy = 0 → becomes { v with discrepancy := 1 }) ∧ (w.discrepancy ≠ 0 → faults .discrepancy))) ∧
    (w.state = .fault → becomes v))
end

