-- ==== Sys2Proof/Laws/State.lean ====
section
/-! SUPPORT. One lemma per field per update of State, so that no later proof unfolds a record update. -/

namespace Sys2Proof.Machine

@[simp] theorem State.modSection_pending (s : State) (n : Nat) (f : Section → Section) : (s.modSection n f).pending = s.pending := rfl
@[simp] theorem State.modSection_draws (s : State) (n : Nat) (f : Section → Section) : (s.modSection n f).draws = s.draws := rfl
@[simp] theorem State.modSection_time (s : State) (n : Nat) (f : Section → Section) : (s.modSection n f).time = s.time := rfl
@[simp] theorem State.modSection_map (s : State) (n : Nat) (f : Section → Section) : (s.modSection n f).map = s.map := rfl
@[simp] theorem State.modSection_sec (s : State) (n : Nat) (f : Section → Section) : (s.modSection n f).sec = { s.sec with sections := modWhere (fun x => x.number == n) f s.sec.sections } := rfl
@[simp] theorem State.modSection_prot (s : State) (n : Nat) (f : Section → Section) : (s.modSection n f).prot = s.prot := rfl
@[simp] theorem State.modSection_switches (s : State) (n : Nat) (f : Section → Section) : (s.modSection n f).switches = s.switches := rfl
@[simp] theorem State.modSection_reg (s : State) (n : Nat) (f : Section → Section) : (s.modSection n f).reg = s.reg := rfl
@[simp] theorem State.modSection_ring (s : State) (n : Nat) (f : Section → Section) : (s.modSection n f).ring = s.ring := rfl
@[simp] theorem State.modSection_cond (s : State) (n : Nat) (f : Section → Section) : (s.modSection n f).cond = s.cond := rfl
@[simp] theorem State.modSection_link (s : State) (n : Nat) (f : Section → Section) : (s.modSection n f).link = s.link := rfl
@[simp] theorem State.modSection_store (s : State) (n : Nat) (f : Section → Section) : (s.modSection n f).store = s.store := rfl

@[simp] theorem State.modFeeder_pending (s : State) (n : Nat) (f : Feeder → Feeder) : (s.modFeeder n f).pending = s.pending := rfl
@[simp] theorem State.modFeeder_draws (s : State) (n : Nat) (f : Feeder → Feeder) : (s.modFeeder n f).draws = s.draws := rfl
@[simp] theorem State.modFeeder_time (s : State) (n : Nat) (f : Feeder → Feeder) : (s.modFeeder n f).time = s.time := rfl
@[simp] theorem State.modFeeder_map (s : State) (n : Nat) (f : Feeder → Feeder) : (s.modFeeder n f).map = s.map := rfl
@[simp] theorem State.modFeeder_sec (s : State) (n : Nat) (f : Feeder → Feeder) : (s.modFeeder n f).sec = { s.sec with feeders := modWhere (fun x => x.number == n) f s.sec.feeders } := rfl
@[simp] theorem State.modFeeder_prot (s : State) (n : Nat) (f : Feeder → Feeder) : (s.modFeeder n f).prot = s.prot := rfl
@[simp] theorem State.modFeeder_switches (s : State) (n : Nat) (f : Feeder → Feeder) : (s.modFeeder n f).switches = s.switches := rfl
@[simp] theorem State.modFeeder_reg (s : State) (n : Nat) (f : Feeder → Feeder) : (s.modFeeder n f).reg = s.reg := rfl
@[simp] theorem State.modFeeder_ring (s : State) (n : Nat) (f : Feeder → Feeder) : (s.modFeeder n f).ring = s.ring := rfl
@[simp] theorem State.modFeeder_cond (s : State) (n : Nat) (f : Feeder → Feeder) : (s.modFeeder n f).cond = s.cond := rfl
@[simp] theorem State.modFeeder_link (s : State) (n : Nat) (f : Feeder → Feeder) : (s.modFeeder n f).link = s.link := rfl
@[simp] theorem State.modFeeder_store (s : State) (n : Nat) (f : Feeder → Feeder) : (s.modFeeder n f).store = s.store := rfl

@[simp] theorem State.modTestUnit_pending (s : State) (n : Nat) (f : TestUnit → TestUnit) : (s.modTestUnit n f).pending = s.pending := rfl
@[simp] theorem State.modTestUnit_draws (s : State) (n : Nat) (f : TestUnit → TestUnit) : (s.modTestUnit n f).draws = s.draws := rfl
@[simp] theorem State.modTestUnit_time (s : State) (n : Nat) (f : TestUnit → TestUnit) : (s.modTestUnit n f).time = s.time := rfl
@[simp] theorem State.modTestUnit_map (s : State) (n : Nat) (f : TestUnit → TestUnit) : (s.modTestUnit n f).map = s.map := rfl
@[simp] theorem State.modTestUnit_sec (s : State) (n : Nat) (f : TestUnit → TestUnit) : (s.modTestUnit n f).sec = { s.sec with testUnits := modWhere (fun x => x.number == n) f s.sec.testUnits } := rfl
@[simp] theorem State.modTestUnit_prot (s : State) (n : Nat) (f : TestUnit → TestUnit) : (s.modTestUnit n f).prot = s.prot := rfl
@[simp] theorem State.modTestUnit_switches (s : State) (n : Nat) (f : TestUnit → TestUnit) : (s.modTestUnit n f).switches = s.switches := rfl
@[simp] theorem State.modTestUnit_reg (s : State) (n : Nat) (f : TestUnit → TestUnit) : (s.modTestUnit n f).reg = s.reg := rfl
@[simp] theorem State.modTestUnit_ring (s : State) (n : Nat) (f : TestUnit → TestUnit) : (s.modTestUnit n f).ring = s.ring := rfl
@[simp] theorem State.modTestUnit_cond (s : State) (n : Nat) (f : TestUnit → TestUnit) : (s.modTestUnit n f).cond = s.cond := rfl
@[simp] theorem State.modTestUnit_link (s : State) (n : Nat) (f : TestUnit → TestUnit) : (s.modTestUnit n f).link = s.link := rfl
@[simp] theorem State.modTestUnit_store (s : State) (n : Nat) (f : TestUnit → TestUnit) : (s.modTestUnit n f).store = s.store := rfl

@[simp] theorem State.modTrips_pending (s : State) (f : List TripRecord → List TripRecord) : (s.modTrips f).pending = s.pending := rfl
@[simp] theorem State.modTrips_draws (s : State) (f : List TripRecord → List TripRecord) : (s.modTrips f).draws = s.draws := rfl
@[simp] theorem State.modTrips_time (s : State) (f : List TripRecord → List TripRecord) : (s.modTrips f).time = s.time := rfl
@[simp] theorem State.modTrips_map (s : State) (f : List TripRecord → List TripRecord) : (s.modTrips f).map = s.map := rfl
@[simp] theorem State.modTrips_sec (s : State) (f : List TripRecord → List TripRecord) : (s.modTrips f).sec = { s.sec with trips := f s.sec.trips } := rfl
@[simp] theorem State.modTrips_prot (s : State) (f : List TripRecord → List TripRecord) : (s.modTrips f).prot = s.prot := rfl
@[simp] theorem State.modTrips_switches (s : State) (f : List TripRecord → List TripRecord) : (s.modTrips f).switches = s.switches := rfl
@[simp] theorem State.modTrips_reg (s : State) (f : List TripRecord → List TripRecord) : (s.modTrips f).reg = s.reg := rfl
@[simp] theorem State.modTrips_ring (s : State) (f : List TripRecord → List TripRecord) : (s.modTrips f).ring = s.ring := rfl
@[simp] theorem State.modTrips_cond (s : State) (f : List TripRecord → List TripRecord) : (s.modTrips f).cond = s.cond := rfl
@[simp] theorem State.modTrips_link (s : State) (f : List TripRecord → List TripRecord) : (s.modTrips f).link = s.link := rfl
@[simp] theorem State.modTrips_store (s : State) (f : List TripRecord → List TripRecord) : (s.modTrips f).store = s.store := rfl

@[simp] theorem State.modContext_pending (s : State) (n : Nat) (f : Context → Context) : (s.modContext n f).pending = s.pending := rfl
@[simp] theorem State.modContext_draws (s : State) (n : Nat) (f : Context → Context) : (s.modContext n f).draws = s.draws := rfl
@[simp] theorem State.modContext_time (s : State) (n : Nat) (f : Context → Context) : (s.modContext n f).time = s.time := rfl
@[simp] theorem State.modContext_map (s : State) (n : Nat) (f : Context → Context) : (s.modContext n f).map = s.map := rfl
@[simp] theorem State.modContext_sec (s : State) (n : Nat) (f : Context → Context) : (s.modContext n f).sec = s.sec := rfl
@[simp] theorem State.modContext_prot (s : State) (n : Nat) (f : Context → Context) : (s.modContext n f).prot = modWhere (fun x => x.number == n) f s.prot := rfl
@[simp] theorem State.modContext_switches (s : State) (n : Nat) (f : Context → Context) : (s.modContext n f).switches = s.switches := rfl
@[simp] theorem State.modContext_reg (s : State) (n : Nat) (f : Context → Context) : (s.modContext n f).reg = s.reg := rfl
@[simp] theorem State.modContext_ring (s : State) (n : Nat) (f : Context → Context) : (s.modContext n f).ring = s.ring := rfl
@[simp] theorem State.modContext_cond (s : State) (n : Nat) (f : Context → Context) : (s.modContext n f).cond = s.cond := rfl
@[simp] theorem State.modContext_link (s : State) (n : Nat) (f : Context → Context) : (s.modContext n f).link = s.link := rfl
@[simp] theorem State.modContext_store (s : State) (n : Nat) (f : Context → Context) : (s.modContext n f).store = s.store := rfl

@[simp] theorem State.modSwitch_pending (s : State) (n : Nat) (f : SwitchPoint → SwitchPoint) : (s.modSwitch n f).pending = s.pending := rfl
@[simp] theorem State.modSwitch_draws (s : State) (n : Nat) (f : SwitchPoint → SwitchPoint) : (s.modSwitch n f).draws = s.draws := rfl
@[simp] theorem State.modSwitch_time (s : State) (n : Nat) (f : SwitchPoint → SwitchPoint) : (s.modSwitch n f).time = s.time := rfl
@[simp] theorem State.modSwitch_map (s : State) (n : Nat) (f : SwitchPoint → SwitchPoint) : (s.modSwitch n f).map = s.map := rfl
@[simp] theorem State.modSwitch_sec (s : State) (n : Nat) (f : SwitchPoint → SwitchPoint) : (s.modSwitch n f).sec = s.sec := rfl
@[simp] theorem State.modSwitch_prot (s : State) (n : Nat) (f : SwitchPoint → SwitchPoint) : (s.modSwitch n f).prot = s.prot := rfl
@[simp] theorem State.modSwitch_switches (s : State) (n : Nat) (f : SwitchPoint → SwitchPoint) : (s.modSwitch n f).switches = modWhere (fun x => x.number == n) f s.switches := rfl
@[simp] theorem State.modSwitch_reg (s : State) (n : Nat) (f : SwitchPoint → SwitchPoint) : (s.modSwitch n f).reg = s.reg := rfl
@[simp] theorem State.modSwitch_ring (s : State) (n : Nat) (f : SwitchPoint → SwitchPoint) : (s.modSwitch n f).ring = s.ring := rfl
@[simp] theorem State.modSwitch_cond (s : State) (n : Nat) (f : SwitchPoint → SwitchPoint) : (s.modSwitch n f).cond = s.cond := rfl
@[simp] theorem State.modSwitch_link (s : State) (n : Nat) (f : SwitchPoint → SwitchPoint) : (s.modSwitch n f).link = s.link := rfl
@[simp] theorem State.modSwitch_store (s : State) (n : Nat) (f : SwitchPoint → SwitchPoint) : (s.modSwitch n f).store = s.store := rfl

@[simp] theorem State.modVehicle_pending (s : State) (n : Nat) (f : Vehicle → Vehicle) : (s.modVehicle n f).pending = s.pending := rfl
@[simp] theorem State.modVehicle_draws (s : State) (n : Nat) (f : Vehicle → Vehicle) : (s.modVehicle n f).draws = s.draws := rfl
@[simp] theorem State.modVehicle_time (s : State) (n : Nat) (f : Vehicle → Vehicle) : (s.modVehicle n f).time = s.time := rfl
@[simp] theorem State.modVehicle_map (s : State) (n : Nat) (f : Vehicle → Vehicle) : (s.modVehicle n f).map = s.map := rfl
@[simp] theorem State.modVehicle_sec (s : State) (n : Nat) (f : Vehicle → Vehicle) : (s.modVehicle n f).sec = s.sec := rfl
@[simp] theorem State.modVehicle_prot (s : State) (n : Nat) (f : Vehicle → Vehicle) : (s.modVehicle n f).prot = s.prot := rfl
@[simp] theorem State.modVehicle_switches (s : State) (n : Nat) (f : Vehicle → Vehicle) : (s.modVehicle n f).switches = s.switches := rfl
@[simp] theorem State.modVehicle_reg (s : State) (n : Nat) (f : Vehicle → Vehicle) : (s.modVehicle n f).reg = { s.reg with vehicles := modWhere (fun x => x.number == n) f s.reg.vehicles } := rfl
@[simp] theorem State.modVehicle_ring (s : State) (n : Nat) (f : Vehicle → Vehicle) : (s.modVehicle n f).ring = s.ring := rfl
@[simp] theorem State.modVehicle_cond (s : State) (n : Nat) (f : Vehicle → Vehicle) : (s.modVehicle n f).cond = s.cond := rfl
@[simp] theorem State.modVehicle_link (s : State) (n : Nat) (f : Vehicle → Vehicle) : (s.modVehicle n f).link = s.link := rfl
@[simp] theorem State.modVehicle_store (s : State) (n : Nat) (f : Vehicle → Vehicle) : (s.modVehicle n f).store = s.store := rfl

@[simp] theorem State.modVehicles_pending (s : State) (f : List Vehicle → List Vehicle) : (s.modVehicles f).pending = s.pending := rfl
@[simp] theorem State.modVehicles_draws (s : State) (f : List Vehicle → List Vehicle) : (s.modVehicles f).draws = s.draws := rfl
@[simp] theorem State.modVehicles_time (s : State) (f : List Vehicle → List Vehicle) : (s.modVehicles f).time = s.time := rfl
@[simp] theorem State.modVehicles_map (s : State) (f : List Vehicle → List Vehicle) : (s.modVehicles f).map = s.map := rfl
@[simp] theorem State.modVehicles_sec (s : State) (f : List Vehicle → List Vehicle) : (s.modVehicles f).sec = s.sec := rfl
@[simp] theorem State.modVehicles_prot (s : State) (f : List Vehicle → List Vehicle) : (s.modVehicles f).prot = s.prot := rfl
@[simp] theorem State.modVehicles_switches (s : State) (f : List Vehicle → List Vehicle) : (s.modVehicles f).switches = s.switches := rfl
@[simp] theorem State.modVehicles_reg (s : State) (f : List Vehicle → List Vehicle) : (s.modVehicles f).reg = { s.reg with vehicles := f s.reg.vehicles } := rfl
@[simp] theorem State.modVehicles_ring (s : State) (f : List Vehicle → List Vehicle) : (s.modVehicles f).ring = s.ring := rfl
@[simp] theorem State.modVehicles_cond (s : State) (f : List Vehicle → List Vehicle) : (s.modVehicles f).cond = s.cond := rfl
@[simp] theorem State.modVehicles_link (s : State) (f : List Vehicle → List Vehicle) : (s.modVehicles f).link = s.link := rfl
@[simp] theorem State.modVehicles_store (s : State) (f : List Vehicle → List Vehicle) : (s.modVehicles f).store = s.store := rfl

@[simp] theorem State.modBeacon_pending (s : State) (n : Nat) (f : Beacon → Beacon) : (s.modBeacon n f).pending = s.pending := rfl
@[simp] theorem State.modBeacon_draws (s : State) (n : Nat) (f : Beacon → Beacon) : (s.modBeacon n f).draws = s.draws := rfl
@[simp] theorem State.modBeacon_time (s : State) (n : Nat) (f : Beacon → Beacon) : (s.modBeacon n f).time = s.time := rfl
@[simp] theorem State.modBeacon_map (s : State) (n : Nat) (f : Beacon → Beacon) : (s.modBeacon n f).map = s.map := rfl
@[simp] theorem State.modBeacon_sec (s : State) (n : Nat) (f : Beacon → Beacon) : (s.modBeacon n f).sec = s.sec := rfl
@[simp] theorem State.modBeacon_prot (s : State) (n : Nat) (f : Beacon → Beacon) : (s.modBeacon n f).prot = s.prot := rfl
@[simp] theorem State.modBeacon_switches (s : State) (n : Nat) (f : Beacon → Beacon) : (s.modBeacon n f).switches = s.switches := rfl
@[simp] theorem State.modBeacon_reg (s : State) (n : Nat) (f : Beacon → Beacon) : (s.modBeacon n f).reg = { s.reg with beacons := modWhere (fun x => x.number == n) f s.reg.beacons } := rfl
@[simp] theorem State.modBeacon_ring (s : State) (n : Nat) (f : Beacon → Beacon) : (s.modBeacon n f).ring = s.ring := rfl
@[simp] theorem State.modBeacon_cond (s : State) (n : Nat) (f : Beacon → Beacon) : (s.modBeacon n f).cond = s.cond := rfl
@[simp] theorem State.modBeacon_link (s : State) (n : Nat) (f : Beacon → Beacon) : (s.modBeacon n f).link = s.link := rfl
@[simp] theorem State.modBeacon_store (s : State) (n : Nat) (f : Beacon → Beacon) : (s.modBeacon n f).store = s.store := rfl

@[simp] theorem State.modRing_pending (s : State) (f : Ring → Ring) : (s.modRing f).pending = s.pending := rfl
@[simp] theorem State.modRing_draws (s : State) (f : Ring → Ring) : (s.modRing f).draws = s.draws := rfl
@[simp] theorem State.modRing_time (s : State) (f : Ring → Ring) : (s.modRing f).time = s.time := rfl
@[simp] theorem State.modRing_map (s : State) (f : Ring → Ring) : (s.modRing f).map = s.map := rfl
@[simp] theorem State.modRing_sec (s : State) (f : Ring → Ring) : (s.modRing f).sec = s.sec := rfl
@[simp] theorem State.modRing_prot (s : State) (f : Ring → Ring) : (s.modRing f).prot = s.prot := rfl
@[simp] theorem State.modRing_switches (s : State) (f : Ring → Ring) : (s.modRing f).switches = s.switches := rfl
@[simp] theorem State.modRing_reg (s : State) (f : Ring → Ring) : (s.modRing f).reg = s.reg := rfl
@[simp] theorem State.modRing_ring (s : State) (f : Ring → Ring) : (s.modRing f).ring = f s.ring := rfl
@[simp] theorem State.modRing_cond (s : State) (f : Ring → Ring) : (s.modRing f).cond = s.cond := rfl
@[simp] theorem State.modRing_link (s : State) (f : Ring → Ring) : (s.modRing f).link = s.link := rfl
@[simp] theorem State.modRing_store (s : State) (f : Ring → Ring) : (s.modRing f).store = s.store := rfl

@[simp] theorem State.modCond_pending (s : State) (f : ConditionUnit → ConditionUnit) : (s.modCond f).pending = s.pending := rfl
@[simp] theorem State.modCond_draws (s : State) (f : ConditionUnit → ConditionUnit) : (s.modCond f).draws = s.draws := rfl
@[simp] theorem State.modCond_time (s : State) (f : ConditionUnit → ConditionUnit) : (s.modCond f).time = s.time := rfl
@[simp] theorem State.modCond_map (s : State) (f : ConditionUnit → ConditionUnit) : (s.modCond f).map = s.map := rfl
@[simp] theorem State.modCond_sec (s : State) (f : ConditionUnit → ConditionUnit) : (s.modCond f).sec = s.sec := rfl
@[simp] theorem State.modCond_prot (s : State) (f : ConditionUnit → ConditionUnit) : (s.modCond f).prot = s.prot := rfl
@[simp] theorem State.modCond_switches (s : State) (f : ConditionUnit → ConditionUnit) : (s.modCond f).switches = s.switches := rfl
@[simp] theorem State.modCond_reg (s : State) (f : ConditionUnit → ConditionUnit) : (s.modCond f).reg = s.reg := rfl
@[simp] theorem State.modCond_ring (s : State) (f : ConditionUnit → ConditionUnit) : (s.modCond f).ring = s.ring := rfl
@[simp] theorem State.modCond_cond (s : State) (f : ConditionUnit → ConditionUnit) : (s.modCond f).cond = f s.cond := rfl
@[simp] theorem State.modCond_link (s : State) (f : ConditionUnit → ConditionUnit) : (s.modCond f).link = s.link := rfl
@[simp] theorem State.modCond_store (s : State) (f : ConditionUnit → ConditionUnit) : (s.modCond f).store = s.store := rfl

@[simp] theorem State.modLink_pending (s : State) (f : Link → Link) : (s.modLink f).pending = s.pending := rfl
@[simp] theorem State.modLink_draws (s : State) (f : Link → Link) : (s.modLink f).draws = s.draws := rfl
@[simp] theorem State.modLink_time (s : State) (f : Link → Link) : (s.modLink f).time = s.time := rfl
@[simp] theorem State.modLink_map (s : State) (f : Link → Link) : (s.modLink f).map = s.map := rfl
@[simp] theorem State.modLink_sec (s : State) (f : Link → Link) : (s.modLink f).sec = s.sec := rfl
@[simp] theorem State.modLink_prot (s : State) (f : Link → Link) : (s.modLink f).prot = s.prot := rfl
@[simp] theorem State.modLink_switches (s : State) (f : Link → Link) : (s.modLink f).switches = s.switches := rfl
@[simp] theorem State.modLink_reg (s : State) (f : Link → Link) : (s.modLink f).reg = s.reg := rfl
@[simp] theorem State.modLink_ring (s : State) (f : Link → Link) : (s.modLink f).ring = s.ring := rfl
@[simp] theorem State.modLink_cond (s : State) (f : Link → Link) : (s.modLink f).cond = s.cond := rfl
@[simp] theorem State.modLink_link (s : State) (f : Link → Link) : (s.modLink f).link = f s.link := rfl
@[simp] theorem State.modLink_store (s : State) (f : Link → Link) : (s.modLink f).store = s.store := rfl

@[simp] theorem State.modStore_pending (s : State) (f : Store → Store) : (s.modStore f).pending = s.pending := rfl
@[simp] theorem State.modStore_draws (s : State) (f : Store → Store) : (s.modStore f).draws = s.draws := rfl
@[simp] theorem State.modStore_time (s : State) (f : Store → Store) : (s.modStore f).time = s.time := rfl
@[simp] theorem State.modStore_map (s : State) (f : Store → Store) : (s.modStore f).map = s.map := rfl
@[simp] theorem State.modStore_sec (s : State) (f : Store → Store) : (s.modStore f).sec = s.sec := rfl
@[simp] theorem State.modStore_prot (s : State) (f : Store → Store) : (s.modStore f).prot = s.prot := rfl
@[simp] theorem State.modStore_switches (s : State) (f : Store → Store) : (s.modStore f).switches = s.switches := rfl
@[simp] theorem State.modStore_reg (s : State) (f : Store → Store) : (s.modStore f).reg = s.reg := rfl
@[simp] theorem State.modStore_ring (s : State) (f : Store → Store) : (s.modStore f).ring = s.ring := rfl
@[simp] theorem State.modStore_cond (s : State) (f : Store → Store) : (s.modStore f).cond = s.cond := rfl
@[simp] theorem State.modStore_link (s : State) (f : Store → Store) : (s.modStore f).link = s.link := rfl
@[simp] theorem State.modStore_store (s : State) (f : Store → Store) : (s.modStore f).store = f s.store := rfl

end Sys2Proof.Machine
end

