-- ==== Sys2Proof/Laws/Frames.lean ====
section
/-! SUPPORT. What each shared operation leaves alone: one frame lemma for each, to be cited in place of unfolding it. -/

namespace Sys2Proof.Machine

/-! ## The frames -/

/-- Everything but the Condition Unit and the outbound frames (a notice may have been added). -/
def State.sameButCond (s t : State) : Prop := s.sameButSwitches t ∧ t.switches = s.switches

/-- Everything but the Section Controller, the contexts, the switch points, the conditions and the link: what changes of
sections and feeders leave alone. -/
def State.sameButSections (s t : State) : Prop := s.sameBase t ∧ t.reg = s.reg ∧ t.ring = s.ring

theorem State.sameBase.refl (s : State) : s.sameBase s := ⟨rfl, rfl, rfl, rfl, rfl⟩

theorem State.sameBase.trans {s t u : State} (h : s.sameBase t) (k : t.sameBase u) : s.sameBase u :=
  ⟨k.1.trans h.1, k.2.1.trans h.2.1, k.2.2.1.trans h.2.2.1, k.2.2.2.1.trans h.2.2.2.1, k.2.2.2.2.trans h.2.2.2.2⟩

theorem State.sameButSwitches.refl (s : State) : s.sameButSwitches s := ⟨.refl s, rfl, rfl, rfl, rfl⟩

theorem State.sameButSwitches.trans {s t u : State} (h : s.sameButSwitches t) (k : t.sameButSwitches u) :
    s.sameButSwitches u :=
  ⟨h.1.trans k.1, k.2.1.trans h.2.1, k.2.2.1.trans h.2.2.1, k.2.2.2.1.trans h.2.2.2.1, k.2.2.2.2.trans h.2.2.2.2⟩

theorem State.sameButCond.refl (s : State) : s.sameButCond s := ⟨.refl s, rfl⟩

theorem State.sameButCond.trans {s t u : State} (h : s.sameButCond t) (k : t.sameButCond u) : s.sameButCond u :=
  ⟨h.1.trans k.1, k.2.trans h.2⟩

theorem State.sameButSections.refl (s : State) : s.sameButSections s := ⟨.refl s, rfl, rfl⟩

theorem State.sameButSections.trans {s t u : State} (h : s.sameButSections t) (k : t.sameButSections u) :
    s.sameButSections u := ⟨h.1.trans k.1, k.2.1.trans h.2.1, k.2.2.trans h.2.2⟩

theorem State.sameButCond.sections {s t : State} (h : s.sameButCond t) : s.sameButSections t :=
  ⟨h.1.1, h.1.2.2.2.1, h.1.2.2.2.2⟩

theorem State.sameButSwitches.sections {s t : State} (h : s.sameButSwitches t) : s.sameButSections t :=
  ⟨h.1, h.2.2.2.1, h.2.2.2.2⟩

/-- Doing for each what keeps a relation that is reflexive and transitive keeps it. -/
theorem forEach_rel {α : Type} {R : State → State → Prop} (hr : ∀ s, R s s) (ht : ∀ {s t u}, R s t → R t u → R s u)
    (l : List α) {f : α → State → State} (h : ∀ x s, R s (f x s)) (s : State) : R s (forEach l f s) := by
  induction l generalizing s with
  | nil => exact hr s
  | cons x l ih => exact ht (h x s) (ih (f x s))

theorem forEach_switches_frame {α : Type} (l : List α) {f : α → State → State} (h : ∀ x (s : State), s.sameButSwitches (f x s))
    (s : State) : s.sameButSwitches (forEach l f s) :=
  forEach_rel (R := State.sameButSwitches) .refl .trans l h s

theorem forEach_sections_frame {α : Type} (l : List α) {f : α → State → State} (h : ∀ x (s : State), s.sameButSections (f x s))
    (s : State) : s.sameButSections (forEach l f s) :=
  forEach_rel (R := State.sameButSections) .refl .trans l h s

/-- Doing for each what keeps a property keeps it. -/
theorem forEach_keeps {α : Type} {P : State → Prop} (l : List α) {f : α → State → State} (h : ∀ x s, P s → P (f x s))
    {s : State} (hs : P s) : P (forEach l f s) := by
  induction l generalizing s with
  | nil => exact hs
  | cons x l ih => exact ih (h x s hs)

/-! ## Conditions -/

theorem announceEntry_frame (s : State) (e : CondEntry) :
    s.sameButCond (s.announceEntry e) ∧ (s.announceEntry e).cond = s.cond := by
  unfold State.announceEntry
  split
  · exact ⟨⟨⟨⟨rfl, rfl, rfl, rfl, rfl⟩, rfl, rfl, rfl, rfl⟩, rfl⟩, rfl⟩
  · exact ⟨.refl s, rfl⟩

theorem modCond_frame (s : State) (f : ConditionUnit → ConditionUnit) : s.sameButCond (s.modCond f) :=
  ⟨⟨⟨rfl, rfl, rfl, rfl, rfl⟩, rfl, rfl, rfl, rfl⟩, rfl⟩

theorem modLink_frame (s : State) (f : Link → Link) : s.sameButCond (s.modLink f) :=
  ⟨⟨⟨rfl, rfl, rfl, rfl, rfl⟩, rfl, rfl, rfl, rfl⟩, rfl⟩

/-- A raise changes the condition set, the ATTENTION line and the notices alone. -/
theorem raise_frame (k : CondKind) (n : Nat) (s : State) : s.sameButCond (raise k n s) := by
  unfold raise State.addEntry State.addOverflow
  split
  · exact modCond_frame ..
  · split
    · exact (announceEntry_frame ..).1.trans (modCond_frame ..)
    · split
      · exact (announceEntry_frame ..).1.trans (modCond_frame ..)
      · exact modCond_frame ..

/-- A raise leaves the inbound side of the link and its counters alone. -/
theorem raise_link (k : CondKind) (n : Nat) (s : State) :
    (raise k n s).link = { s.link with outbound := (raise k n s).link.outbound } := by
  unfold raise State.addEntry State.addOverflow State.announceEntry Link.queueNotice
  split
  · rfl
  · split
    · split
      · simp only [State.modCond_link, State.modLink_link]; split <;> rfl
      · rfl
    · split
      · split
        · simp only [State.modCond_link, State.modLink_link]; split <;> rfl
        · rfl
      · rfl

/-- The end of a cause changes that cause alone. -/
theorem endCause_frame (k : CondKind) (n : Nat) (s : State) :
    s.sameButCond (endCause k n s) ∧ (endCause k n s).link = s.link ∧ s.cond.sameButCauses (endCause k n s).cond := by
  refine ⟨modCond_frame .., rfl, ?_, rfl, rfl, rfl, rfl⟩
  simp only [endCause, State.modCond_cond, modWhere, List.map_map]
  apply List.map_congr_left
  intro e _
  simp only [Function.comp]
  split <;> rfl

/-! ## Protection -/

theorem blindCause_frame (f : Nat) (a b : ContextStatus) (s : State) : s.sameButCond (blindCause f a b s) := by
  unfold blindCause
  split
  · exact (endCause_frame ..).1
  · split
    · exact raise_frame ..
    · exact .refl s

/-- A change of a context changes that context, and PROTECTION_BLIND with its status, alone. -/
theorem changeContext_frame (n : Nat) (f : Context → Context) (s : State) :
    s.sameBase (changeContext n f s) ∧ (changeContext n f s).sec = s.sec ∧ (changeContext n f s).switches = s.switches ∧
      (changeContext n f s).reg = s.reg ∧ (changeContext n f s).ring = s.ring := by
  unfold changeContext
  split
  · exact ⟨.refl s, rfl, rfl, rfl, rfl⟩
  · have h := blindCause_frame n ‹Context›.status (f ‹Context›).status (s.modContext n f)
    exact ⟨h.1.1, h.1.2.1, h.2, h.1.2.2.2.1, h.1.2.2.2.2⟩

/-! ## Switch points -/

theorem modSwitch_frame (s : State) (n : Nat) (f : SwitchPoint → SwitchPoint) : s.sameButSwitches (s.modSwitch n f) :=
  ⟨⟨rfl, rfl, rfl, rfl, rfl⟩, rfl, rfl, rfl, rfl⟩

theorem throwDecision_frame (n : Nat) (s : State) : s.sameButSwitches (throwDecision n s) := modSwitch_frame ..

theorem checkHoldLong_frame (n : Nat) (s : State) : s.sameButSwitches (checkHoldLong n s) := by
  unfold checkHoldLong
  split
  · exact .refl s
  · split
    · exact (modSwitch_frame ..).trans (raise_frame ..).1
    · exact .refl s

theorem updateAspect_frame (n : Nat) (s : State) : s.sameButSwitches (updateAspect n s) :=
  (modSwitch_frame ..).trans (checkHoldLong_frame ..)

theorem headMoved_frame (old : Option Nat) (n : Nat) (s : State) : s.sameButSwitches (headMoved old n s) := by
  unfold headMoved
  split
  · exact .refl s
  · split
    · exact .refl s
    · dsimp only
      split
      · exact (modSwitch_frame ..).trans (throwDecision_frame ..)
      · exact modSwitch_frame ..

theorem changeQueue_frame (n : Nat) (f : List SwitchRequest → List SwitchRequest) (s : State) :
    s.sameButSwitches (changeQueue n f s) := by
  unfold changeQueue
  split
  · exact .refl s
  · exact ((modSwitch_frame ..).trans (headMoved_frame ..)).trans (updateAspect_frame ..)

theorem addSwitchRequest_frame (n v : Nat) (leg : Leg) (o : RequestOrigin) (s : State) :
    s.sameButSwitches (addSwitchRequest n v leg o s) := by
  unfold addSwitchRequest
  split
  · exact .refl s
  · split
    · dsimp only
      split
      · exact ((modSwitch_frame ..).trans (throwDecision_frame ..)).trans (updateAspect_frame ..)
      · exact modSwitch_frame ..
    · split
      · exact (raise_frame ..).1
      · exact (((modSwitch_frame ..).trans (headMoved_frame ..)).trans (throwDecision_frame ..)).trans (updateAspect_frame ..)

theorem removeRequests_frame (v : Nat) (s : State) : s.sameButSwitches (removeRequests v s) :=
  forEach_switches_frame _ (fun _ _ => changeQueue_frame ..) s

theorem enterFault_frame (n : Nat) (r : FaultReason) (s : State) : s.sameButSwitches (enterFault n r s) := by
  unfold enterFault
  split
  · exact .refl s
  · split
    · exact .refl s
    · exact (modSwitch_frame ..).trans (raise_frame ..).1

theorem supplyGained_frame (n : Nat) (s : State) : s.sameButSwitches (supplyGained n s) :=
  forEach_switches_frame _ (fun _ _ => (throwDecision_frame ..).trans (updateAspect_frame ..)) s

theorem supplyLost_frame (n : Nat) (s : State) : s.sameButSwitches (supplyLost n s) :=
  forEach_switches_frame _ (fun _ _ => (modSwitch_frame ..).trans (updateAspect_frame ..)) s

theorem switchUnitSilent_frame (i : Nat) (s : State) : s.sameButSwitches (switchUnitSilent i s) :=
  forEach_switches_frame _ (fun _ _ => (modSwitch_frame ..).trans (updateAspect_frame ..)) s

theorem releasePins_frame (s : State) : s.sameButSwitches (releasePins s) :=
  forEach_switches_frame _
    (fun _ _ => ((modSwitch_frame ..).trans (throwDecision_frame ..)).trans (updateAspect_frame ..)) s

/-! ## Sections -/

theorem modSection_frame (s : State) (n : Nat) (f : Section → Section) : s.sameButSections (s.modSection n f) :=
  ⟨⟨rfl, rfl, rfl, rfl, rfl⟩, rfl, rfl⟩

theorem modFeeder_frame (s : State) (n : Nat) (f : Feeder → Feeder) : s.sameButSections (s.modFeeder n f) :=
  ⟨⟨rfl, rfl, rfl, rfl, rfl⟩, rfl, rfl⟩

theorem modTestUnit_frame (s : State) (n : Nat) (f : TestUnit → TestUnit) : s.sameButSections (s.modTestUnit n f) :=
  ⟨⟨rfl, rfl, rfl, rfl, rfl⟩, rfl, rfl⟩

theorem modTrips_frame (s : State) (f : List TripRecord → List TripRecord) : s.sameButSections (s.modTrips f) :=
  ⟨⟨rfl, rfl, rfl, rfl, rfl⟩, rfl, rfl⟩

theorem modContext_frame (s : State) (n : Nat) (f : Context → Context) : s.sameButSections (s.modContext n f) :=
  ⟨⟨rfl, rfl, rfl, rfl, rfl⟩, rfl, rfl⟩

theorem changeContext_sections (n : Nat) (f : Context → Context) (s : State) :
    s.sameButSections (changeContext n f s) :=
  ⟨(changeContext_frame n f s).1, (changeContext_frame n f s).2.2.2.1, (changeContext_frame n f s).2.2.2.2⟩

theorem tellProtection_frame (x : Section) (dst : SectionState) (s : State) :
    s.sameBase (tellProtection x dst s) ∧ (tellProtection x dst s).sec = s.sec ∧
      (tellProtection x dst s).switches = s.switches ∧ (tellProtection x dst s).reg = s.reg ∧
      (tellProtection x dst s).ring = s.ring :=
  forEach_rel (R := fun s t => s.sameBase t ∧ t.sec = s.sec ∧ t.switches = s.switches ∧ t.reg = s.reg ∧ t.ring = s.ring)
    (fun s => ⟨.refl s, rfl, rfl, rfl, rfl⟩)
    (fun h k => ⟨h.1.trans k.1, k.2.1.trans h.2.1, k.2.2.1.trans h.2.2.1, k.2.2.2.1.trans h.2.2.2.1,
      k.2.2.2.2.trans h.2.2.2.2⟩)
    x.feeders (fun _ _ => changeContext_frame ..) s

theorem tellSwitches_frame (x : Section) (dst : SectionState) (s : State) : s.sameButSwitches (tellSwitches x dst s) := by
  unfold tellSwitches
  split
  · exact supplyGained_frame ..
  · split
    · exact supplyLost_frame ..
    · exact .refl s

theorem tellLockout_frame (x : Section) (dst : SectionState) (s : State) : s.sameButCond (tellLockout x dst s) := by
  unfold tellLockout
  split
  · exact raise_frame ..
  · split
    · exact (endCause_frame ..).1
    · exact .refl s

/-- The trip records alone follow an entry into a state. -/
theorem tellTrips_frame (x y : Section) (s : State) :
    tellTrips x y s = { s with sec := { s.sec with trips := (tellTrips x y s).sec.trips } } := by
  unfold tellTrips
  dsimp only
  split <;> split <;> rfl

/-- The sections alone follow the end of an EXPIRED window. -/
theorem closeExpired_frame (n : Nat) (dst : SectionState) (s : State) :
    closeExpired n dst s = { s with sec := { s.sec with sections := (closeExpired n dst s).sec.sections } } := by
  unfold closeExpired
  split <;> rfl

/-- A section's change of state leaves the vehicles, the ring, the map, the store, part time and the queue alone. -/
theorem changeState_frame (n : Nat) (dst : SectionState) (prep : Section → Section) (s : State) :
    s.sameButSections (changeState n dst prep s) := by
  unfold changeState
  split
  · exact .refl s
  · rename_i x _
    rw [closeExpired_frame, tellTrips_frame]
    have h := (tellProtection_frame x dst (s.modSection n fun y => (prep y).enter s.stamp dst))
    have h1 : s.sameButSections (tellProtection x dst (s.modSection n fun y => (prep y).enter s.stamp dst)) :=
      (modSection_frame ..).trans ⟨h.1, h.2.2.2.1, h.2.2.2.2⟩
    exact (h1.trans (tellSwitches_frame ..).sections).trans (tellLockout_frame ..).sections

theorem lockOut_frame (n : Nat) (r : LockReason) (s : State) : s.sameButSections (lockOut n r s) := changeState_frame ..

theorem giveOpen_frame (n : Nat) (s : State) : s.sameButSections (giveOpen n s) := modFeeder_frame ..

theorem openSection_frame (n : Nat) (dst : Destination) (s : State) : s.sameButSections (openSection n dst s) := by
  unfold openSection
  split
  · exact .refl s
  · exact (forEach_sections_frame _ (fun _ _ => giveOpen_frame ..) s).trans (changeState_frame ..)

theorem enterClosing_frame (n : Nat) (o : ClosingOrigin) (s : State) : s.sameButSections (enterClosing n o s) := by
  unfold enterClosing
  split
  · exact .refl s
  · exact (forEach_sections_frame _ (fun _ _ => (modFeeder_frame ..).trans (modContext_frame ..)) s).trans
      (changeState_frame ..)

theorem enterLive_frame (n : Nat) (prep : Section → Section) (s : State) : s.sameButSections (enterLive n prep s) := by
  unfold enterLive
  split
  · exact .refl s
  · exact (forEach_sections_frame _ (fun _ _ => modFeeder_frame ..) s).trans (changeState_frame ..)

theorem enterDestination_frame (n : Nat) (s : State) : s.sameButSections (enterDestination n s) := by
  unfold enterDestination
  split
  · exact changeState_frame ..
  · exact lockOut_frame ..
  · exact changeState_frame ..
  · exact .refl s

theorem addTrip_frame (r : TripRecord) (s : State) : s.sameButSections (addTrip r s) := by
  unfold addTrip
  split
  · exact modTrips_frame ..
  · split
    · exact modTrips_frame ..
    · exact (modTrips_frame ..).trans (raise_frame ..).sections

theorem tripFeeders_frame (x : Section) (f : Nat) (s : State) : s.sameButSections (tripFeeders x f s) := by
  have h : s.sameButSections (giveOpen f (setContextLatch f (s.modFeeder f fun f => { f with latch := true }))) :=
    ((modFeeder_frame ..).trans (changeContext_sections ..)).trans (giveOpen_frame ..)
  unfold tripFeeders
  dsimp only
  split
  · exact h.trans (giveOpen_frame ..)
  · exact h

/-- A trip leaves the vehicles, the ring, the map, the store, part time and the queue alone. -/
theorem takeTrip_frame (f : Nat) (c : TripCause) (fig : TripFigures) (s : State) : s.sameButSections (takeTrip f c fig s) := by
  unfold takeTrip
  split
  · exact .refl s
  · split
    · exact .refl s
    · split
      · exact .refl s
      · rename_i x _
        have h : ∀ r, s.sameButSections (raise .trip x.number (addTrip r (tripFeeders x f s))) := fun r =>
          ((tripFeeders_frame ..).trans (addTrip_frame ..)).trans (raise_frame ..).sections
        unfold tripSection
        dsimp only
        split
        · exact (h _).trans (changeState_frame ..)
        · exact (h _).trans (changeState_frame ..)
        · exact h _
        · split
          · exact ((tripFeeders_frame ..).trans (modTrips_frame ..)).trans (raise_frame ..).sections
          · exact h _
        · exact .refl s

theorem goodSample_frame (f : Nat) (i : Int) (v : Nat) (s : State) : s.sameButSections (goodSample f i v s) :=
  changeContext_sections ..

theorem storeReport_frame (k : SlotKind) (f : Nat) (b : Breaker) (c : Byte) (s : State) :
    s.sameButSections (storeReport k f b c s) := by
  unfold storeReport
  split
  · exact .refl s
  · dsimp only
    split
    · exact (modFeeder_frame ..).trans (endCause_frame ..).1.sections
    · exact modFeeder_frame ..

theorem adopt_frame (x : Section) (s : State) : s.sameButSections (adopt x s) := by
  unfold adopt
  split
  · split
    · split
      · exact openSection_frame ..
      · exact enterLive_frame ..
    · split
      · exact changeState_frame ..
      · exact openSection_frame ..
  · exact .refl s

theorem reviewSection_frame (n : Nat) (e : Bool) (s : State) : s.sameButSections (reviewSection n e s) := by
  unfold reviewSection
  split
  · exact .refl s
  · split
    · split
      · exact enterLive_frame ..
      · exact .refl s
    · split
      · exact enterDestination_frame ..
      · exact .refl s
    · split
      · exact enterDestination_frame ..
      · exact .refl s
    · exact adopt_frame ..
    · exact .refl s

/-- A feeder report leaves the vehicles, the ring, the map, the store, part time and the queue alone. -/
theorem feederReportAs_frame (k : SlotKind) (f : Nat) (b : Breaker) (c : Byte) (s : State) :
    s.sameButSections (feederReportAs k f b c s) := by
  unfold feederReportAs
  split
  · exact .refl s
  · split
    · exact .refl s
    · rename_i _ g _ _ x _
      have h : s.sameButSections (testReport x g b c s) := by
        unfold testReport
        split
        · split
          · exact takeTrip_frame ..
          · exact .refl s
        · split
          · exact giveOpen_frame ..
          · exact .refl s
      dsimp only
      split
      · exact (h.trans (storeReport_frame ..)).trans (enterDestination_frame ..)
      · exact (h.trans (storeReport_frame ..)).trans (reviewSection_frame ..)

theorem feederReport_frame (f : Nat) (b : Breaker) (c : Byte) (s : State) : s.sameButSections (feederReport f b c s) :=
  feederReportAs_frame ..

/-! ## Line tests and reclose -/

theorem recloseClosing_frame (n : Nat) (s : State) : s.sameButSections (recloseClosing n s) := by
  unfold recloseClosing
  split
  · exact .refl s
  · split
    · exact (modSection_frame ..).trans (enterClosing_frame ..)
    · exact lockOut_frame ..

theorem carrySection_frame (n : Nat) (k : TestResultKind) (s : State) : s.sameButSections (carrySection n k s) := by
  unfold carrySection
  split
  · exact .refl s
  · split
    · exact recloseClosing_frame ..
    · dsimp only
      split
      · exact (modSection_frame ..).trans (lockOut_frame ..)
      · exact (modSection_frame ..).trans (changeState_frame ..)

theorem orderHead_frame (u node : Nat) (l : List Nat) (s : State) : s.sameButSections (orderHead u node l s) := by
  induction l generalizing s with
  | nil => exact modTestUnit_frame ..
  | cons n rest ih =>
    unfold orderHead
    dsimp only
    split
    · exact modTestUnit_frame ..
    · exact (((modTestUnit_frame ..).trans (modSection_frame ..)).trans (ih _)).trans (carrySection_frame ..)

theorem endTest_frame (u : TestUnit) (r : TestResult) (s : State) : s.sameButSections (endTest u r s) := by
  unfold endTest
  split
  · exact .refl s
  · exact ((modSection_frame ..).trans (orderHead_frame ..)).trans (carrySection_frame ..)

theorem endStopped_frame (u : TestUnit) (s : State) : s.sameButSections (endStopped u s) := by
  unfold endStopped
  split
  · exact .refl s
  · exact (changeState_frame ..).trans (orderHead_frame ..)

theorem joinTestQueue_frame (n u : Nat) (s : State) : s.sameButSections (joinTestQueue n u s) := by
  unfold joinTestQueue
  split
  · exact .refl s
  · split
    · exact orderHead_frame ..
    · exact modTestUnit_frame ..

theorem endTesting_frame (x : Section) (s : State) : s.sameButSections (endTesting x s) := by
  unfold endTesting stopTest leaveTestQueue
  split
  · exact .refl s
  · split
    · exact .refl s
    · split
      · exact (modSection_frame ..).trans (modTestUnit_frame ..)
      · exact (modTestUnit_frame ..).trans (changeState_frame ..)

theorem makeDead_frame (x : Section) (s : State) : s.sameButSections (makeDead x s) := by
  unfold makeDead
  split
  · exact openSection_frame ..
  · exact openSection_frame ..
  · exact modSection_frame ..
  · exact changeState_frame ..
  · exact endTesting_frame ..
  all_goals exact .refl s

theorem recloseStep_frame (x : Section) (s : State) : s.sameButSections (recloseStep x s) := by
  unfold recloseStep
  split
  · exact lockOut_frame ..
  · split
    · exact (changeState_frame ..).trans (joinTestQueue_frame ..)
    · exact recloseClosing_frame ..

theorem feederFailsToClose_frame (f : Nat) (s : State) : s.sameButSections (feederFailsToClose f s) := by
  unfold feederFailsToClose
  split
  · exact .refl s
  · split
    · exact .refl s
    · dsimp only
      split
      · exact (modFeeder_frame ..).trans (endCause_frame ..).1.sections
      · exact modFeeder_frame ..

theorem failToClose_frame (x : Section) (s : State) : s.sameButSections (failToClose x s) :=
  (forEach_sections_frame _ feederFailsToClose_frame s).trans (openSection_frame ..)

theorem testGivesUp_frame (u : TestUnit) (s : State) : s.sameButSections (testGivesUp u s) := by
  unfold testGivesUp
  split
  · exact .refl s
  · exact endTest_frame ..
  · exact endTest_frame ..
  · exact endStopped_frame ..

end Sys2Proof.Machine
end

