-- ==== Sys2Proof/Laws/Memory.lean ====
section
/-! SUPPORT. Laws of the store's memory (R166, R169, R170): every operation keeps the canonical form, a read after a write gives
what was written, and a write leaves every other byte alone. -/

namespace Sys2Proof.Machine

/-! ## Reading -/

@[simp] theorem readByte_nil (x : Nat) : readByte [] x = erasedByte := rfl

theorem readByte_cons (a : Nat) (b : Byte) (rest : Memory) (x : Nat) :
    readByte ((a, b) :: rest) x = if x = a then b else readByte rest x := rfl

/-- A cell list that starts above an address does not list it. -/
theorem readByte_below {lo : Nat} {m : Memory} (h : cellsRise lo m = true) {x : Nat} (hx : x < lo) :
    readByte m x = erasedByte := by
  induction m generalizing lo with
  | nil => rfl
  | cons c rest ih =>
    obtain ⟨a, b⟩ := c
    simp only [cellsRise, Bool.and_eq_true, decide_eq_true_eq] at h
    rw [readByte_cons, if_neg (by omega)]
    exact ih h.2 (by omega)

@[simp] theorem readBytes_length (m : Memory) (a n : Nat) : (readBytes m a n).length = n := by
  induction n generalizing a with
  | zero => rfl
  | succ n ih => simp [readBytes, ih]

theorem readBytes_getElem? (m : Memory) (a n i : Nat) (hi : i < n) :
    (readBytes m a n)[i]? = some (readByte m (a + i)) := by
  induction n generalizing a i with
  | zero => omega
  | succ n ih =>
    cases i with
    | zero => simp [readBytes]
    | succ i =>
      have h := ih (a + 1) i (by omega)
      simp only [readBytes, List.getElem?_cons_succ, h]
      congr 2; omega

/-- Two memories that read alike on a range read the same bytes from it. -/
theorem readBytes_congr {m m' : Memory} {a n : Nat} (h : ∀ i, i < n → readByte m (a + i) = readByte m' (a + i)) :
    readBytes m a n = readBytes m' a n := by
  apply List.ext_getElem?
  intro i
  by_cases hi : i < n
  · rw [readBytes_getElem? _ _ _ _ hi, readBytes_getElem? _ _ _ _ hi, h i hi]
  · rw [List.getElem?_eq_none (by simpa using hi), List.getElem?_eq_none (by simpa using hi)]

/-! ## The canonical form -/

theorem cellsRise_mono {lo lo' : Nat} {m : Memory} (hle : lo' ≤ lo) (h : cellsRise lo m = true) : cellsRise lo' m = true := by
  cases m with
  | nil => rfl
  | cons c rest =>
    obtain ⟨a, b⟩ := c
    simp only [cellsRise, Bool.and_eq_true, decide_eq_true_eq] at h ⊢
    exact ⟨⟨by omega, h.1.2⟩, h.2⟩

/-- Programming one byte keeps the rising order and lists no FFh. -/
theorem cellsRise_writeByte {lo x : Nat} {m : Memory} (v : Byte) (hx : lo ≤ x) (h : cellsRise lo m = true) :
    cellsRise lo (writeByte m x v) = true := by
  induction m generalizing lo with
  | nil =>
    unfold writeByte
    split
    · rfl
    · rename_i hv; simp [cellsRise, hx, hv]
  | cons c rest ih =>
    obtain ⟨a, b⟩ := c
    have hc := h
    simp only [cellsRise, Bool.and_eq_true, decide_eq_true_eq] at hc
    unfold writeByte
    split
    · split
      · exact h
      · rename_i hlt hv
        simp only [cellsRise, Bool.and_eq_true, decide_eq_true_eq]
        exact ⟨⟨hx, by simpa using hv⟩, ⟨by omega, hc.1.2⟩, hc.2⟩
    · split
      · rename_i hlt heq
        subst heq
        split
        · exact cellsRise_mono (by omega) hc.2
        · rename_i hv
          simp only [cellsRise, Bool.and_eq_true, decide_eq_true_eq]
          exact ⟨⟨hx, by simpa using hv⟩, hc.2⟩
      · simp only [cellsRise, Bool.and_eq_true, decide_eq_true_eq]
        exact ⟨hc.1, ih (by omega) hc.2⟩

theorem writeByte_mem_bound {m : Memory} {x : Nat} {v : Byte} {c : Host.Cell} (h : c ∈ writeByte m x v) :
    c ∈ m ∨ c = (x, v) := by
  induction m with
  | nil =>
    unfold writeByte at h
    split at h
    · simp at h
    · simp at h; exact .inr h
  | cons d rest ih =>
    obtain ⟨a, b⟩ := d
    unfold writeByte at h
    split at h
    · split at h
      · exact .inl h
      · rcases List.mem_cons.1 h with h | h
        · exact .inr h
        · exact .inl h
    · split at h
      · split at h
        · exact .inl (List.mem_cons_of_mem _ h)
        · rcases List.mem_cons.1 h with h | h
          · exact .inr h
          · exact .inl (List.mem_cons_of_mem _ h)
      · rcases List.mem_cons.1 h with h | h
        · exact .inl (h ▸ List.mem_cons_self)
        · rcases ih h with h | h
          · exact .inl (List.mem_cons_of_mem _ h)
          · exact .inr h

theorem Memory.wf_iff {m : Memory} : Memory.wf m = true ↔ cellsRise 0 m = true ∧ ∀ c ∈ m, c.1 < 16384 := by
  simp [Memory.wf]

/-- Programming one byte of the store keeps its memory's form. -/
theorem writeByte_wf {m : Memory} {x : Nat} (v : Byte) (hx : x < 16384) (h : Memory.wf m = true) :
    Memory.wf (writeByte m x v) = true := by
  rw [Memory.wf_iff] at h ⊢
  refine ⟨cellsRise_writeByte v (Nat.zero_le x) h.1, fun c hc => ?_⟩
  rcases writeByte_mem_bound hc with hc | rfl
  · exact h.2 c hc
  · exact hx

/-- Programming bytes within the store keeps its memory's form. -/
theorem writeBytes_wf {m : Memory} {a : Nat} {data : List Byte} (ha : a + data.length ≤ 16384) (h : Memory.wf m = true) :
    Memory.wf (writeBytes m a data) = true := by
  induction data generalizing m a with
  | nil => exact h
  | cons b rest ih =>
    simp only [List.length_cons] at ha
    exact ih (by omega) (writeByte_wf b (by omega) h)

/-- Dropping cells by their address keeps the rising order. -/
theorem cellsRise_filter {lo : Nat} {m : Memory} (p : Host.Cell → Bool) (h : cellsRise lo m = true) :
    cellsRise lo (m.filter p) = true := by
  induction m generalizing lo with
  | nil => rfl
  | cons c rest ih =>
    obtain ⟨a, b⟩ := c
    simp only [cellsRise, Bool.and_eq_true, decide_eq_true_eq] at h
    rw [List.filter_cons]
    split
    · simp only [cellsRise, Bool.and_eq_true, decide_eq_true_eq]
      exact ⟨h.1, ih h.2⟩
    · exact cellsRise_mono (by omega) (ih h.2)

/-- Dropping cells keeps the memory's form. -/
theorem filter_wf {m : Memory} (p : Host.Cell → Bool) (h : Memory.wf m = true) : Memory.wf (m.filter p) = true := by
  rw [Memory.wf_iff] at h ⊢
  exact ⟨cellsRise_filter p h.1, fun c hc => h.2 c (List.mem_filter.1 hc).1⟩

/-- A map erase keeps the memory's form. -/
theorem erasePages_wf {m : Memory} (h : Memory.wf m = true) : Memory.wf (erasePages m) = true := filter_wf _ h

/-- A map erase cut short keeps the memory's form. -/
theorem erasePartly_wf {m : Memory} (e : Nat → Bool) (h : Memory.wf m = true) : Memory.wf (erasePartly e m) = true :=
  filter_wf _ h

/-- The memory after reset has the form. -/
theorem reset_memory_wf : Memory.wf State.reset.store.mem = true := by decide

/-! ## Reading after writing -/

/-- A byte reads as it was written, and every other byte as before. -/
theorem readByte_writeByte {lo : Nat} {m : Memory} (h : cellsRise lo m = true) (x : Nat) (v : Byte) (y : Nat) :
    readByte (writeByte m x v) y = if y = x then v else readByte m y := by
  induction m generalizing lo with
  | nil =>
    unfold writeByte
    split
    · rename_i hv; simp [hv]
    · rfl
  | cons c rest ih =>
    obtain ⟨a, b⟩ := c
    have hc := h
    simp only [cellsRise, Bool.and_eq_true, decide_eq_true_eq] at hc
    unfold writeByte
    split
    · rename_i hlt
      split
      · rename_i hv
        split
        · rename_i hy
          subst hy
          rw [hv, readByte_cons, if_neg (by omega)]
          exact readByte_below hc.2 (by omega)
        · rfl
      · rw [readByte_cons]
    · split
      · rename_i hlt heq
        subst heq
        split
        · rename_i hv
          split
          · rename_i hy; subst hy; rw [hv]; exact readByte_below hc.2 (by omega)
          · rename_i hy; rw [readByte_cons, if_neg hy]
        · rw [readByte_cons, readByte_cons]
          split
          · rfl
          · rfl
      · rename_i hlt hne
        rw [readByte_cons, readByte_cons, ih hc.2]
        by_cases hy : y = a
        · subst hy; simp; omega
        · simp [hy]

/-- Bytes programmed in ascending order read back, and every byte outside them reads as before. -/
theorem readByte_writeBytes {m : Memory} {a : Nat} {data : List Byte} (h : cellsRise 0 m = true) (y : Nat) :
    readByte (writeBytes m a data) y =
      if a ≤ y ∧ y < a + data.length then data.getD (y - a) erasedByte else readByte m y := by
  induction data generalizing m a with
  | nil =>
    rw [if_neg (by simp)]
    rfl
  | cons b rest ih =>
    have hw := cellsRise_writeByte b (Nat.zero_le a) h
    simp only [writeBytes]
    rw [ih hw, readByte_writeByte h, List.length_cons]
    by_cases hy : y = a
    · subst hy
      rw [if_neg (by omega), if_pos rfl, if_pos (by omega)]
      simp
    · by_cases hr : a + 1 ≤ y ∧ y < a + 1 + rest.length
      · rw [if_pos hr, if_pos (by omega)]
        have : y - a = (y - (a + 1)) + 1 := by omega
        rw [this, List.getD_cons_succ]
      · rw [if_neg hr, if_neg hy, if_neg (by omega)]

/-- A page reads as the data written to it. -/
theorem readBytes_writeBytes {m : Memory} {a : Nat} {data : List Byte} (h : cellsRise 0 m = true) :
    readBytes (writeBytes m a data) a data.length = data := by
  apply List.ext_getElem?
  intro i
  by_cases hi : i < data.length
  · rw [readBytes_getElem? _ _ _ _ hi, readByte_writeBytes h, if_pos (by omega)]
    simp [hi]
  · rw [List.getElem?_eq_none (by simpa using hi), List.getElem?_eq_none (by simpa using hi)]

/-- Dropping cells: an address whose cells are kept reads as before, one whose cells are dropped reads FFh. -/
theorem readByte_filter (m : Memory) (p : Nat → Bool) (y : Nat) :
    readByte (m.filter (fun c => p c.1)) y = if p y then readByte m y else erasedByte := by
  induction m with
  | nil => simp
  | cons c rest ih =>
    obtain ⟨a, b⟩ := c
    rw [List.filter_cons]
    by_cases hy : y = a
    · subst hy
      by_cases hp : p y
      · simp [hp, readByte_cons]
      · simp [hp, ih]
    · by_cases hp : p a
      · simp [hp, readByte_cons, hy, ih]
      · simp [hp, readByte_cons, hy, ih]

/-- After a map erase page 0 reads as before and every other byte FFh (R166, R170). -/
theorem readByte_erasePages (m : Memory) (y : Nat) :
    readByte (erasePages m) y = if y < 256 then readByte m y else erasedByte := by
  have := readByte_filter m (fun a => decide (a < 256)) y
  simpa [erasePages] using this

/-- After an erase cut short a byte of pages 1 to 63 reads FFh when it was reached, and as before otherwise (R166). -/
theorem readByte_erasePartly (e : Nat → Bool) (m : Memory) (y : Nat) :
    readByte (erasePartly e m) y = if y < 256 ∨ e y = false then readByte m y else erasedByte := by
  have := readByte_filter m (fun a => decide (a < 256) || !e a) y
  simpa [erasePartly] using this

end Sys2Proof.Machine
end

