-- ==== Sys2Proof/Laws/Ops.lean ====
section
/-! SUPPORT. What each shared operation does: the records it changes, the reply it makes, the entry it raises. -/

namespace Sys2Proof.Machine

/-! ## Records of a table -/

/-- A change of the records of one number is seen at that number and at no other. -/
theorem find_modWhere {α : Type} {key : α → Nat} {f : α → α} (hf : ∀ x, key (f x) = key x) (n m : Nat) (l : List α) :
    (modWhere (fun x => key x == n) f l).find? (fun x => key x == m) =
      (l.find? (fun x => key x == m)).map (fun x => if m = n then f x else x) := by
  induction l with
  | nil => rfl
  | cons x l ih =>
    have hx : key (if (key x == n) = true then f x else x) = key x := by split <;> simp [hf]
    simp only [modWhere, List.map_cons, List.find?_cons] at ih ⊢
    rw [hx]
    by_cases hm : key x = m
    · subst hm; simp
    · have hb : (key x == m) = false := by simpa using hm
      rw [hb]
      exact ih

theorem find_number {α : Type} {key : α → Nat} {n : Nat} {l : List α} {x : α}
    (h : l.find? (fun x => key x == n) = some x) : key x = n := by
  have := List.find?_some h; simpa using this

theorem State.section?_number {s : State} {n : Nat} {x : Section} (h : s.section? n = some x) : x.number = n := find_number h
theorem State.feeder?_number {s : State} {n : Nat} {x : Feeder} (h : s.feeder? n = some x) : x.number = n := find_number h
theorem State.context?_number {s : State} {n : Nat} {x : Context} (h : s.context? n = some x) : x.number = n := find_number h
theorem State.testUnit?_number {s : State} {n : Nat} {x : TestUnit} (h : s.testUnit? n = some x) : x.number = n :=
  find_number h
theorem State.switch?_number {s : State} {n : Nat} {x : SwitchPoint} (h : s.switch? n = some x) : x.number = n :=
  find_number h
theorem State.vehicle?_number {s : State} {n : Nat} {x : Vehicle} (h : s.vehicle? n = some x) : x.number = n := find_number h

theorem State.section?_modSection (s : State) (n m : Nat) {f : Section → Section} (hf : ∀ x, (f x).number = x.number) :
    (s.modSection n f).section? m = (s.section? m).map (fun x => if m = n then f x else x) := find_modWhere hf n m _

theorem State.feeder?_modFeeder (s : State) (n m : Nat) {f : Feeder → Feeder} (hf : ∀ x, (f x).number = x.number) :
    (s.modFeeder n f).feeder? m = (s.feeder? m).map (fun x => if m = n then f x else x) := find_modWhere hf n m _

theorem State.testUnit?_modTestUnit (s : State) (n m : Nat) {f : TestUnit → TestUnit}
    (hf : ∀ x, (f x).number = x.number) :
    (s.modTestUnit n f).testUnit? m = (s.testUnit? m).map (fun x => if m = n then f x else x) := find_modWhere hf n m _

theorem State.context?_modContext (s : State) (n m : Nat) {f : Context → Context} (hf : ∀ x, (f x).number = x.number) :
    (s.modContext n f).context? m = (s.context? m).map (fun x => if m = n then f x else x) := find_modWhere hf n m _

theorem State.switch?_modSwitch (s : State) (n m : Nat) {f : SwitchPoint → SwitchPoint}
    (hf : ∀ x, (f x).number = x.number) :
    (s.modSwitch n f).switch? m = (s.switch? m).map (fun x => if m = n then f x else x) := find_modWhere hf n m _

theorem State.vehicle?_modVehicle (s : State) (n m : Nat) {f : Vehicle → Vehicle} (hf : ∀ x, (f x).number = x.number) :
    (s.modVehicle n f).vehicle? m = (s.vehicle? m).map (fun x => if m = n then f x else x) := find_modWhere hf n m _

/-- A count that saturates stays within its limit. -/
theorem satAdd_le {limit n : Nat} (_ : n ≤ limit) : satAdd limit n ≤ limit := by unfold satAdd; split <;> omega

/-! ## Requests and their replies -/

theorem State.ready_iff {s : State} :
    s.ready = true ↔ s.link.serving = none ∧ s.link.inbound.length < 4 ∧ s.link.replies.length < 4 := by
  simp only [State.ready, Link.canServe, Link.replySlotFree, Link.replies, Bool.and_eq_true, decide_eq_true_eq,
    Option.isNone_iff_eq_none, and_assoc]
  exact Iff.rfl

/-- A reply with a free slot and nothing else being carried out enters the slot, and that is all. -/
theorem Link.answer_free {l : Link} (hs : l.serving = none) (hf : l.replySlotFree = true) (kind tag : Byte)
    (body : List Byte) : l.answer kind tag body = l.pushReply kind tag body := by
  unfold Link.answer Link.pushReply
  rw [if_pos hf]
  cases l; simp_all

theorem serve_of_ready {s : State} (hr : s.ready = true) (kind tag : Byte) (h : Handler) :
    serve kind tag h s = carryOut kind tag h s := by
  unfold serve
  rw [if_pos (by simp only [State.ready, Bool.and_eq_true] at hr; exact hr.1)]

/-- A request that is answered without an effect on the link: the effect, then its reply. -/
theorem serve_some {s t : State} (hr : s.ready = true) (kind tag : Byte) {h : Handler} {body : List Byte}
    (he : h s = (t, some body)) (hs : t.link.serving = none) (hf : t.link.replySlotFree = true) :
    serve kind tag h s = t.replied kind tag body := by
  rw [serve_of_ready hr]
  simp only [carryOut, he, State.replied, State.modLink, Link.answer_free hs hf]

/-- A refused request gets its result code, and nothing else changes. -/
theorem serve_refuse {s : State} (hr : s.ready = true) (kind tag code : Byte) :
    serve kind tag (refuse code) s = s.replied kind tag [code] := by
  have h := hr
  simp only [State.ready, Link.canServe, Bool.and_eq_true, Option.isNone_iff_eq_none] at h
  exact serve_some hr kind tag rfl h.1.1 h.2

/-- A read is answered OK with its contents, and nothing else changes. -/
theorem serve_showing {s : State} (hr : s.ready = true) (kind tag : Byte) (c : State → List Byte) :
    serve kind tag (showing c) s = s.replied kind tag (0x00 :: c s) := by
  have h := hr
  simp only [State.ready, Link.canServe, Bool.and_eq_true, Option.isNone_iff_eq_none] at h
  exact serve_some hr kind tag rfl h.1.1 h.2

/-- A request that takes time holds the head of the queue, without a reply. -/
theorem serve_held {s t : State} (hr : s.ready = true) (kind tag : Byte) {h : Handler} (he : h s = (t, none)) :
    serve kind tag h s = t.modLink fun l => { l with serving := some (.store kind tag) } := by
  rw [serve_of_ready hr]
  simp only [carryOut, he]

/-- A request that comes while another is being carried out is not taken (R161). -/
theorem serve_waiting {s : State} (hs : s.link.serving.isSome = true) (kind tag : Byte) (h : Handler) :
    serve kind tag h s = s := by
  unfold serve
  rw [if_neg]
  cases hl : s.link.serving <;> simp_all [Link.canServe]

/-! ## Conditions -/

/-- A raise of an entry that is held counts into it (R145). -/
theorem raise_held {k : CondKind} {n : Nat} {s : State} (h : s.cond.entries.any (·.isOf k n) = true) :
    raise k n s = s.modCond fun u => { u with entries := modWhere (·.isOf k n) (·.raisedAgain s.stamp) u.entries } := by
  unfold raise; rw [if_pos h]

/-- A raise of an entry that is not held, the set having room, makes it (R145). -/
theorem raise_new {k : CondKind} {n : Nat} {s : State} (h : s.cond.entries.any (·.isOf k n) = false)
    (hr : s.cond.entries.length < 48) : raise k n s = s.addEntry (newEntry s.stamp k n) := by
  unfold raise conditionCapacity; rw [if_neg (by simp [h]), if_pos hr]

/-- A notice takes no reply slot: every raise leaves the replies as they were. -/
theorem raise_replies (k : CondKind) (n : Nat) (s : State) : (raise k n s).link.replies = s.link.replies := by
  unfold raise State.addEntry State.addOverflow State.announceEntry Link.queueNotice
  split
  · rfl
  · split
    · split
      · simp only [State.modCond_link, State.modLink_link]; split <;> simp [Link.replies, noticeOf]
      · rfl
    · split
      · split
        · simp only [State.modCond_link, State.modLink_link]; split <;> simp [Link.replies, noticeOf]
        · rfl
      · rfl

/-- After a raise the entry is in the set, unless the set was full. -/
theorem raise_holds (k : CondKind) (n : Nat) (s : State) :
    (∃ e ∈ (raise k n s).cond.entries, e.kind = k ∧ e.subject = n) ∨ 48 ≤ s.cond.entries.length := by
  by_cases h : s.cond.entries.any (·.isOf k n) = true
  · rw [raise_held h]
    obtain ⟨e, he, hk⟩ := List.any_eq_true.1 h
    refine .inl ⟨e.raisedAgain s.stamp, ?_, ?_⟩
    · simp only [State.modCond_cond, modWhere, List.mem_map]
      exact ⟨e, he, by simp [hk]⟩
    · simpa [CondEntry.isOf, CondEntry.raisedAgain] using hk
  · by_cases hr : s.cond.entries.length < 48
    · rw [raise_new (by simpa using h) hr]
      exact .inl ⟨newEntry s.stamp k n, by simp [State.addEntry, ConditionUnit.review, announceEntry_frame], rfl, rfl⟩
    · exact .inr (by omega)

/-! ## Contexts -/

/-- A change of a context is seen in that context and in no other. -/
theorem changeContext_context? (n m : Nat) {f : Context → Context} (hf : ∀ c, (f c).number = c.number) (s : State) :
    (changeContext n f s).context? m = (s.context? m).map (fun c => if m = n then f c else c) := by
  unfold changeContext
  split
  · rename_i h
    by_cases hm : m = n
    · subst hm; simp [h]
    · simp [hm]
  · rename_i c h
    have hp := (blindCause_frame n c.status (f c).status (s.modContext n f)).1.2.2.1
    rw [← State.context?_modContext s n m hf]
    simp only [State.context?, hp]

/-! ## Sections -/

@[simp] theorem Section.enter_number (now : Stamp) (dst : SectionState) (x : Section) : (x.enter now dst).number = x.number := rfl
@[simp] theorem Section.enter_state (now : Stamp) (dst : SectionState) (x : Section) : (x.enter now dst).state = dst := rfl
@[simp] theorem Section.enter_feeders (now : Stamp) (dst : SectionState) (x : Section) : (x.enter now dst).feeders = x.feeders := rfl
@[simp] theorem Section.enter_test (now : Stamp) (dst : SectionState) (x : Section) : (x.enter now dst).test = x.test := rfl
@[simp] theorem Section.enter_settings (now : Stamp) (dst : SectionState) (x : Section) :
    (x.enter now dst).settings = x.settings := rfl
@[simp] theorem Section.enter_attempts (now : Stamp) (dst : SectionState) (x : Section) :
    (x.enter now dst).attempts = x.attempts := rfl

/-- What the blocks that are told of a section's state do leaves the section, feeder and test unit records alone. -/
theorem told_sec (x : Section) (dst : SectionState) (s : State) :
    (tellLockout x dst (tellSwitches x dst (tellProtection x dst s))).sec = s.sec := by
  rw [(tellLockout_frame x dst _).1.2.1, (tellSwitches_frame x dst _).2.1, (tellProtection_frame x dst _).2.1]

/-- Entering a state changes the record of that section as R3 states, the end of an EXPIRED window at LIVE included, and no
other record. -/
theorem changeState_section? {n : Nat} {dst : SectionState} {prep : Section → Section} {s : State}
    (hp : ∀ x, (prep x).number = x.number) {x : Section} (hx : s.section? n = some x) (m : Nat) :
    (changeState n dst prep s).section? m = (s.section? m).map (fun y =>
      if m = n then
        let z := (prep y).enter s.stamp dst
        if dst = .live ∧ z.window = .expired then z.closeWindow else z
      else y) := by
  have hn : ∀ y, ((prep y).enter s.stamp dst).number = y.number := fun y => hp y
  have hs : ∀ t : State, (tellTrips x ((prep x).enter s.stamp dst) (tellLockout x dst
      (tellSwitches x dst (tellProtection x dst t)))).sec.sections = t.sec.sections := by
    intro t; rw [tellTrips_frame]
    have : ∀ u : State, (tellTrips x ((prep x).enter s.stamp dst) u).sec.sections = u.sec.sections := by
      intro u; unfold tellTrips; dsimp only; split <;> split <;> rfl
    rw [← told_sec x dst t]
  unfold changeState
  rw [hx]
  dsimp only
  unfold closeExpired
  split
  · rename_i h
    rw [State.section?_modSection _ n m (by intro y; split <;> rfl)]
    unfold State.section?
    rw [hs]
    have := State.section?_modSection s n m hn
    unfold State.section? at this
    rw [this, Option.map_map]
    congr 1
    funext y
    by_cases hm : m = n <;> simp [hm, h]
  · rename_i h
    unfold State.section?
    rw [hs]
    have := State.section?_modSection s n m hn
    unfold State.section? at this
    rw [this]
    simp [h]

/-- A section's change of state leaves every feeder and test unit record alone. -/
theorem changeState_feeders (n : Nat) (dst : SectionState) (prep : Section → Section) (s : State) :
    (changeState n dst prep s).sec.feeders = s.sec.feeders ∧ (changeState n dst prep s).sec.testUnits = s.sec.testUnits ∧
      (changeState n dst prep s).sec.emergency = s.sec.emergency ∧ (changeState n dst prep s).sec.adoption = s.sec.adoption := by
  unfold changeState
  split
  · exact ⟨rfl, rfl, rfl, rfl⟩
  · rename_i x _
    rw [closeExpired_frame, tellTrips_frame]
    have h := told_sec x dst (s.modSection n fun y => (prep y).enter s.stamp dst)
    dsimp only
    rw [h]
    exact ⟨rfl, rfl, rfl, rfl⟩

/-- Giving OPEN is seen in that feeder and in no other. -/
theorem giveOpen_feeder? (n m : Nat) (s : State) :
    (giveOpen n s).feeder? m = (s.feeder? m).map (fun f => if m = n then f.openOrder s.stamp else f) :=
  State.feeder?_modFeeder s n m (by intro f; unfold Feeder.openOrder; split <;> rfl)

/-! ## The line -/

/-- Characters that arrive one after another. -/
theorem receive_append (xs ys : List RxChar) (s : State) : receive (xs ++ ys) s = receive ys (receive xs s) := by
  simp [receive, forEach, List.foldl_append]

/-- A hunting parser passes over everything but a start marker (R157). -/
theorem receiveChar_hunting {s : State} (h : s.link.parser = .hunting) {c : RxChar} (hc : c.value ≠ startMarker) :
    receiveChar c s = s := by
  unfold receiveChar
  rw [h]
  simp [hc]

/-- A frame is discarded: the parser hunts and the counter is raised, within its limit (R158, R164). -/
theorem Link.discard_counts (l : Link) : l.discard.parser = .hunting ∧ l.discard.inbound = l.inbound ∧
    l.discard.outbound = l.outbound ∧ (l.discards ≤ 65535 → l.discard.discards ≤ 65535) :=
  ⟨rfl, rfl, rfl, fun h => satAdd_le h⟩

/-! ## The store across a reset, and the map's validity -/

theorem mapFault_of_checked {st : Store} {o : Nat} (h : checkedFault st = some o) : mapFault st = some o := by
  simp only [mapFault, h]

/-- A map is without fault exactly when it passes every check of R173 and no operation has been cut short (R166). -/
theorem mapFault_eq_none {st : Store} : mapFault st = none ↔ checkedFault st = none ∧ st.cutShort = none := by
  unfold mapFault
  cases checkedFault st <;> simp

@[simp] theorem Store.cut_busy (draws : Nat) (st : Store) : (st.cut draws).busy = none := by
  unfold Store.cut; split <;> simp_all

@[simp] theorem Store.cut_written (draws : Nat) (st : Store) : (st.cut draws).written = st.written := by
  unfold Store.cut; split <;> rfl

theorem Store.cut_idle {draws : Nat} {st : Store} (h : st.busy = none) : st.cut draws = st := by
  simp [Store.cut, h]

/-- A running operation that reset cuts short leaves a map that fails validation (R166). -/
theorem mapFault_cut {draws : Nat} {st : Store} (h : st.busy.isSome = true) : mapFault (st.cut draws) ≠ none := by
  intro hn
  have hc := (mapFault_eq_none.1 hn).2
  revert h hc
  unfold Store.cut
  cases st.busy with
  | none => simp
  | some op => cases op <;> simp

/-! ## The entry of the service parcel, and the faults of a report -/

/-- The entry a service parcel went to stands at the index noted for the period and has the identity asked for (R140). -/
theorem Ring.served?_eq_some {r : Ring} {identity i : Nat} {n : Node} :
    r.served? identity = some (i, n) ↔ r.serviceEntry = some i ∧ r.nodes[i]? = some n ∧ n.identity = identity := by
  unfold Ring.served?
  cases r.serviceEntry with
  | none => simp
  | some k =>
    simp only [Option.bind_some, Option.map_eq_some_iff, Option.filter_eq_some_iff, Prod.mk.injEq, Option.some.injEq, beq_iff_eq]
    constructor
    · rintro ⟨a, ⟨ha, hid⟩, rfl, rfl⟩; exact ⟨rfl, ha, hid⟩
    · rintro ⟨rfl, hn, hid⟩; exact ⟨n, ⟨hn, hid⟩, rfl, rfl⟩

/-- A fault a report brings has a defined kind code that none of the codes seen before it is (R103). -/
theorem mem_reportedFaults {seen : List Nat} {l : List (Nat × Nat)} {f : ReportedFault} (h : f ∈ reportedFaults seen l) :
    ∃ k sev, (k, sev) ∈ l ∧ k ∉ seen ∧ FaultKind.ofCode k = some f.kind ∧ Severity.ofCode sev = some f.severity := by
  induction l generalizing seen with
  | nil => cases h
  | cons x rest ih =>
    obtain ⟨k, sev⟩ := x
    rw [reportedFaults, List.mem_append] at h
    rcases h with h | h
    · split at h
      · cases h
      · rename_i hk
        refine ⟨k, sev, List.mem_cons_self, by simpa using hk, ?_⟩
        unfold reportedFault at h
        split at h
        · rename_i a b ha hb
          obtain rfl := by simpa using h
          exact ⟨ha, hb⟩
        · cases h
    · obtain ⟨k', sev', hm, hs, hf⟩ := ih h
      exact ⟨k', sev', List.mem_cons_of_mem _ hm, fun hx => hs (List.mem_cons_of_mem _ hx), hf⟩

/-! ## The feeder slot (R8, R12, R16, R45) -/

@[simp] theorem Feeder.take_order (b : Breaker) (c : Byte) (f : Feeder) : (f.take b c).order = f.order := rfl
@[simp] theorem Feeder.take_orderStart (b : Breaker) (c : Byte) (f : Feeder) : (f.take b c).orderStart = f.orderStart := rfl
@[simp] theorem Feeder.take_latch (b : Breaker) (c : Byte) (f : Feeder) : (f.take b c).latch = f.latch := rfl
@[simp] theorem Feeder.take_breaker (b : Breaker) (c : Byte) (f : Feeder) : (f.take b c).breaker = b := rfl
@[simp] theorem Feeder.take_ownRelease (b : Breaker) (c : Byte) (f : Feeder) : (f.take b c).ownRelease = some c := rfl

/-- What storing a slot does to the record: the report is taken, and an OPEN order ended exactly by a slot that reports OPEN and is
not one that keeps it. -/
theorem Feeder.store_cases (k : SlotKind) (b : Breaker) (c : Byte) (f : Feeder) :
    (b = .opened ∧ f.order = .opens ∧ k ≠ .keepsOrder ∧ f.store k b c = (f.take b c).endOrder) ∨
    (¬(b = .opened ∧ f.order = .opens ∧ k ≠ .keepsOrder) ∧ f.store k b c = f.take b c) := by
  unfold Feeder.store
  split
  · rename_i h
    exact .inl ⟨h.1, h.2.1, h.2.2, rfl⟩
  · rename_i h
    exact .inr ⟨h, rfl⟩

/-- A slot whose sample tripped keeps the OPEN order exactly when none stood before (R16). -/
theorem slotKind_keepsOrder (n : Nat) (f : Feeder) (s : State) (hf : s.feeder? n = some f) :
    slotKind n s = .keepsOrder ↔ f.order ≠ .opens := by
  unfold slotKind
  simp only [hf]
  split
  · simp_all
  · split
    · simp_all
    · split <;> simp_all

@[simp] theorem Handing.takeHeld_held (h : Handing) : h.takeHeld.held = [] := rfl
@[simp] theorem Handing.takeHeld_taken (h : Handing) : h.takeHeld.taken = h.taken ++ h.held := rfl
@[simp] theorem Handing.onState_state (f : State → State) (h : Handing) : (h.onState f).state = f h.state := rfl
@[simp] theorem Handing.onState_taken (f : State → State) (h : Handing) : (h.onState f).taken = h.taken := rfl

end Sys2Proof.Machine
end

