-- ==== Sys2Proof/WellFormed.lean ====
section
/-! DEFINITION. Which commands are well formed: every number is one that the manual's subject numbers,
field-unit ranges and codes allow (00 Conventions, R1). Argument bytes, characters and telegram bytes are
always well formed: what the part does with bad ones is part of the commands' meaning. -/

namespace Sys2Proof

/-- A number lies in a closed range. -/
def inRange (lo hi n : Nat) : Bool := decide (lo ≤ n) && decide (n ≤ hi)

/-- A sample as a feeder unit can report it (00: current -8000..8000 A, voltage 0..1000 V) of a feeder 1..24. -/
def wellFormedSample (feeder : Nat) (current : Int) (voltage : Nat) : Bool :=
  inRange 1 24 feeder && decide (-8000 ≤ current) && decide (current ≤ 8000) && decide (voltage ≤ 1000)

/-- The subject numbers of a command lie in the ranges of 00's table of subject numbers. -/
def Instr.wellFormed : Instr → Bool
  | .nodeSilent identity => inRange 1 4095 identity
  | .riseLimit f i v => wellFormedSample f i v
  | .overcurrentRun f i v => wellFormedSample f i v
  | .saturationRun f i v => wellFormedSample f i v
  | .protectionBlind f => inRange 1 24 f
  | .suspectWatchEnd i => inRange 1 8 i
  | .closeConfirmTimeout n => inRange 1 16 n
  | .openConfirmTimeout f => inRange 1 24 f
  | .recloseDelayExpiry n => inRange 1 16 n
  | .windowExpiry n => inRange 1 16 n
  | .testTimeout u => inRange 1 6 u
  | .throwTimeout n => inRange 1 24 n
  | .requestExpiry n v => inRange 1 24 n && inRange 1 9999 v
  | .holdLong n => inRange 1 24 n
  | .sightTimeout v => inRange 1 9999 v
  | .reset _ _ _ | .emergencyAsserted | .emergencyReleased | .validFrame _ | .interCharacterGap _ | .lineBreak _
  | .requestStart | .replyEntersSlot | .frameSent | .unknownKind _ _ _ | .identify _ _ | .ping _ _ | .getLinkStatus _ _
  | .getSection _ _ | .energise _ _ | .deEnergise _ _ | .isolate _ _ | .restore _ _ | .release _ _ | .getFeeder _ _
  | .getTrip _ _ | .setProtection _ _ | .getSwitch _ _ | .pin _ _ | .unpin _ _ | .switchRestore _ _ | .holdOn _ _
  | .holdOff _ _ | .clearQueue _ _ | .addRequest _ _ | .getVehicle _ _ | .listVehicles _ _ | .clearVehicleFault _ _
  | .forgetVehicle _ _ | .getConditions _ _ | .clearCondition _ _ | .clearConditionAll _ _ | .setEnables _ _ | .getRing _ _
  | .getNode _ _ | .setMode _ _ | .reopen _ _ | .restart _ _ | .readPage _ _ | .writePage _ _ | .pageWriteFinished
  | .eraseMap _ _ | .mapEraseFinished | .applyMap _ _ | .ringPeriod _ | .darkRunLimit | .telegramReturn _ _ _
  | .portLinkChange _ _ | .linkUpAnnounce _ | .adoptionDeadline | .hostSilenceExpiry | .discardedFrame _
  | .timestampAged => true

end Sys2Proof
end

