-- ==== Sys2Proof/Tests/Slice0.lean ====
section
/-! SUPPORT. Tests on small states (expected values from the manual's tables and worked cases, or by hand from its formats), and
for every statement with hypotheses a witness that meets them. -/

namespace Sys2Proof.Tests

open Sys2Proof Sys2Proof.Machine

/-! ## Well-formedness: an ill-formed command for each check -/

theorem smoke_nodeSilent : Instr.wellFormed (.nodeSilent 0) = false ∧ Instr.wellFormed (.nodeSilent 4096) = false := by decide
theorem smoke_samples : Instr.wellFormed (.riseLimit 0 0 0) = false ∧ Instr.wellFormed (.riseLimit 1 8001 0) = false ∧
    Instr.wellFormed (.overcurrentRun 25 0 0) = false ∧ Instr.wellFormed (.overcurrentRun 1 (-8001) 0) = false ∧
    Instr.wellFormed (.saturationRun 25 0 0) = false ∧ Instr.wellFormed (.saturationRun 1 6000 1001) = false := by decide
theorem smoke_protectionBlind : Instr.wellFormed (.protectionBlind 25) = false := by decide
theorem smoke_suspectWatchEnd : Instr.wellFormed (.suspectWatchEnd 9) = false := by decide
theorem smoke_sections : Instr.wellFormed (.closeConfirmTimeout 17) = false ∧
    Instr.wellFormed (.recloseDelayExpiry 0) = false ∧ Instr.wellFormed (.windowExpiry 17) = false := by decide
theorem smoke_openConfirmTimeout : Instr.wellFormed (.openConfirmTimeout 25) = false := by decide
theorem smoke_testTimeout : Instr.wellFormed (.testTimeout 7) = false := by decide
theorem smoke_switches : Instr.wellFormed (.throwTimeout 25) = false ∧ Instr.wellFormed (.requestExpiry 0 1) = false ∧
    Instr.wellFormed (.requestExpiry 1 10000) = false ∧ Instr.wellFormed (.holdLong 0) = false := by decide
theorem smoke_sightTimeout : Instr.wellFormed (.sightTimeout 10000) = false := by decide
theorem smoke_good : Instr.wellFormed (.riseLimit 24 8000 1000) = true ∧ Instr.wellFormed (.testTimeout 6) = true := by decide

/-! ## Check values (R156: the check of the nine characters 123456789; 10.5: the usual CRC-32 check value) -/

theorem test_crc16 : crc16 [0x31, 0x32, 0x33, 0x34, 0x35, 0x36, 0x37, 0x38, 0x39] = 0x29B1#16 := by decide +kernel
theorem test_crc32 : crc32 [0x31, 0x32, 0x33, 0x34, 0x35, 0x36, 0x37, 0x38, 0x39] = 0xCBF43926#32 := by decide +kernel

/-! ## A small part: one section of two feeders, one test unit, one switch point, two vehicles, one beacon -/

def settings : ProtectionSettings :=
  { dStart := 60, dHold := 25, kMin := 6, kMax := 80, lBase := 900, aVeh := 180, iOv := 3200, nOv := 400 }

def oneMap : Installed :=
  { valid := true, version := 7, tHold := 60, tReq := 120, tSight := 600, tSilence := 10
    routes := [{ code := 21, switch := 1, leg := .turn }] }

def aSection (st : SectionState) : Section :=
  { number := 1, state := st, feeders := [1, 2], test := some { unit := 1, channel := 1 }
    settings := { rMax := 2, window := 60, delay := 10, blind := false, rClear := 15 } }

def aFeeder (n : Nat) : Feeder := { number := n, sect := 1, node := n, breaker := .opened, ownRelease := some 4 }

def aContext (n : Nat) : Context := { number := n, settings := settings }

def aSwitch : SwitchPoint :=
  { number := 1, node := 3, supply := 1, defaultLeg := .straight, tThrow := 20, hold := true, position := some .straight
    state := .set, baseline := true, aspect := .proceedStraight }

def aVehicle (n : Nat) : Vehicle :=
  { number := n, inSight := true, sect := some 1, lastBeacon := 1, lastSeen := { t := 99000 }, route := 21, pole := .onWire }

def aNode (n : Nat) (kind : NodeKind) (role : Option Role) : Node :=
  { identity := n, kind := kind, role := role, posA := some n, posB := some (6 - n), state := .present }

def someNodes : List Node :=
  [aNode 1 .feederUnit (some { kind := .feeder, index := 1 }), aNode 2 .feederUnit (some { kind := .feeder, index := 2 }),
    aNode 3 .switchUnit (some { kind := .switch, index := 1 }), aNode 4 .beaconUnit (some { kind := .beacon, index := 1 }),
    aNode 5 .testUnit none]

def aRing : Ring :=
  { state := .ring, a := { mode := .auto, linkUp := true, number := 9, outstanding := some 9, unreturned := true, sentLast := true }
    b := { mode := .auto, linkUp := true }, running := true, roleSent := true, nodes := someNodes, discovery := none }

/-- The part at part time 100 000 with its section as given. -/
def part (x : Section) : State :=
  { State.reset with
    time := { now := 100000 }
    map := oneMap
    sec := { adoption := .over, sections := [x], feeders := [aFeeder 1, aFeeder 2]
             testUnits := [{ number := 1, node := 5, rTest := 50 }] }
    prot := [aContext 1, aContext 2]
    switches := [aSwitch]
    reg := { vehicles := [aVehicle 412, aVehicle 207]
             beacons := [{ number := 1, node := 4, sect := 1, approach := [1] }] }
    ring := aRing
    cond := { enables := defaultEnables, silence := some 90000 }
    link := {} }

def dead : State := part (aSection .dead)

def liveSection : Section := { aSection .live with origin := some .energise, liveSince := some { t := 50000 } }

def live : State := part liveSection

def closing : State := part { aSection .closing with origin := some .energise, closingSince := some 99700 }

def tripped : State := part { aSection .tripped with destination := some .recloseWait, window := .opened, windowStart := some { t := 99900 } }

def waiting : State := part { aSection .recloseWait with delayStart := some 99000, window := .opened, windowStart := some { t := 40000 } }

/-- The section in TESTING at the head of its unit's queue. -/
def testing : State :=
  let s := part { aSection .testing with window := .opened, windowStart := some { t := 99000 }, testsUsed := 0 }
  s.modTestUnit 1 fun u => { u with queue := [1], phase := .ordered, testNumber := 5, orderedAt := some 99000 }

def locked : State := part { aSection .lockedOut with lockReason := some .tripLimit }

def isolated : State := part (aSection .isolated)

/-- The section LIVE and the switch point as given. -/
def withSwitch (w : SwitchPoint) : State := { live with switches := [w] }

def moving : SwitchPoint :=
  { aSwitch with state := .moving, throw := some { target := .turn, start := 98000, seen := true }, aspect := .stop }

def broken : SwitchPoint := { aSwitch with state := .fault, position := none, fault := some .dewirement, aspect := .stop }

def request (v : Nat) (leg : Leg) : SwitchRequest := { vehicle := v, leg := leg, origin := .route, created := { t := 99000 } }

def queued : SwitchPoint := { aSwitch with queue := [request 412 .straight, request 207 .turn], headSince := some 99000 }

/-- Both contexts ARMED with a last current. -/
def armed (c : Context) : State := { live with prot := [{ c with number := 1, status := .armed }, aContext 2] }

def front (c : Instr) (s : State) : State := { s with pending := [c] }

/-- A whole map: section 1 with feeder 1, switch 1, beacon 1, test unit 1, one route entry, and the default settings. -/
def mapRecords : List Byte :=
  [1, 2, 60, 0, 10, 0, 0, 15, 0] ++
  [1, 1, 1, 0, 60, 0, 25, 0, 6, 0, 80, 0, 0x84, 3, 180, 0, 0x80, 0x0C, 0x90, 1] ++
  [1, 3, 0, 1, 1, 20, 1] ++ [1, 4, 0, 1, 1, 0] ++ [1, 5, 0, 50, 1, 0, 0, 0] ++ [21, 0, 1, 2] ++
  [60, 0, 120, 0, 0x58, 2, 10, 2, 2] ++ List.replicate 19 1 ++ List.replicate 5 0

def mapBytes : List Byte :=
  [0x5A, 0xA5, 9, 0, 1, 1, 1, 1, 1, 1, 0, 1] ++ le16 (crc16 mapRecords).toNat ++ mapRecords

def mapped (s : State) : State := { s with store := { mem := writeBytes factoryPage 256 mapBytes, written := [1] } }

set_option maxRecDepth 100000 in
theorem test_map_valid : mapFault (mapped dead).store = none := by decide +kernel
theorem test_map_version_fault : mapFault { (mapped dead).store with written := [] } = some 0 := by decide +kernel

/-- A part with something in every table: a test under way, a queue, a trip record, a condition, a map in the store. -/
def rich : State :=
  { front (.ping 1 []) (mapped testing) with
    switches := [queued]
    sec := { (mapped testing).sec with
      trips := [{ time := { t := 99000 }, sect := 1, feeder := 1, cause := .rise
                  figures := { current := some 2790, peak := 2790, deltaI := 1560, k := 6, limit := 1440, vehicles := 3, samples := [] }
                  intertripped := some 2, present := [207, 412], presentCount := 2, suspect := none, watching := true
                  referenced := false }] }
    cond := { enables := defaultEnables, attention := true
              entries := [{ kind := .trip, subject := 1, first := { t := 99000 }, last := { t := 99000 }, count := 1, cause := none }] } }

theorem rich_link : rich.link.ok := by unfold Link.ok; decide
theorem rich_cond : rich.cond.ok := by unfold ConditionUnit.ok distinctEntries; decide
set_option maxRecDepth 100000 in
theorem rich_store : rich.store.ok := by
  refine ⟨by decide +kernel, ?_, trivial⟩
  unfold Store.blankPages
  decide +kernel
theorem rich_tables : rich.tablesOk := by unfold State.tablesOk; decide
theorem rich_sections : rich.sectionsOk := by unfold State.sectionsOk Section.ok; decide
theorem rich_reclose : rich.recloseOk := by
  refine ⟨by decide, ?_, by decide⟩
  intro u hu
  obtain rfl := List.mem_singleton.1 hu
  refine ⟨by decide, fun n hn x hx => ?_⟩
  obtain rfl := List.mem_singleton.1 hn
  obtain rfl := Option.some.inj (hx.symm.trans (rfl : rich.section? 1 = some _))
  decide
theorem rich_contexts : ∀ c ∈ rich.prot, c.ok := by
  intro c hc
  rcases List.mem_cons.1 hc with rfl | hc
  · refine ⟨by decide, by decide, by decide, by decide, by decide, ?_, by decide, by decide, by decide⟩
    intro i hi; cases hi
  · obtain rfl := List.mem_singleton.1 hc
    refine ⟨by decide, by decide, by decide, by decide, by decide, ?_, by decide, by decide, by decide⟩
    intro i hi; cases hi
theorem rich_switches : rich.switchesOk := by unfold State.switchesOk SwitchPoint.ok; decide
theorem rich_inSight : rich.requestsInSight := by unfold State.requestsInSight; decide
theorem rich_ring : rich.ring.ok := by unfold Ring.ok Port.ok; decide
theorem rich_steps : ∃ t, step rich = .next t := ⟨_, rfl⟩

/-! ## Witnesses: states and operands that meet the hypotheses of each statement -/

theorem wit_StepTakesFrontCommand : rich.pending = .ping 1 [] :: [] := rfl
theorem wit_CommandsKeepTheirBounds : (∃ t, exec (.ping 1 []) dead = .next t) ∧ ¬ isReset (.ping 1 []) ∧
    ¬ mayInstall (.ping 1 []) ∧ ¬ mayStore (.ping 1 []) := ⟨⟨_, rfl⟩, id, id, id⟩
theorem wit_StepKeepsLinkBounds : (∃ t, step rich = .next t) ∧ rich.link.ok := ⟨rich_steps, rich_link⟩
theorem wit_StepKeepsConditionSet : (∃ t, step rich = .next t) ∧ rich.cond.ok := ⟨rich_steps, rich_cond⟩
theorem wit_StepKeepsErasedPagesBlank : (∃ t, step rich = .next t) ∧ rich.store.ok := ⟨rich_steps, rich_store⟩
theorem wit_StepKeepsTableBounds : (∃ t, step rich = .next t) ∧ rich.tablesOk := ⟨rich_steps, rich_tables⟩
theorem wit_StepKeepsSectionRecords : (∃ t, step rich = .next t) ∧ rich.sectionsOk := ⟨rich_steps, rich_sections⟩
theorem wit_StepKeepsRecloseLimit : (∃ t, step rich = .next t) ∧ rich.sectionsOk ∧ rich.recloseOk :=
  ⟨rich_steps, rich_sections, rich_reclose⟩
theorem wit_StepKeepsContexts : (∃ t, step rich = .next t) ∧ ∀ c ∈ rich.prot, c.ok := ⟨rich_steps, rich_contexts⟩
theorem wit_StepKeepsSwitchRecords : (∃ t, step rich = .next t) ∧ rich.switchesOk := ⟨rich_steps, rich_switches⟩
theorem wit_StepKeepsRequestsInSight : (∃ t, step rich = .next t) ∧ rich.requestsInSight := ⟨rich_steps, rich_inSight⟩
theorem wit_StepKeepsRing : (∃ t, step rich = .next t) ∧ rich.ring.ok := ⟨rich_steps, rich_ring⟩
theorem wit_ResetOfAnErasedMap : dead.store.busy = none ∧ dead.store.written = [] := ⟨rfl, rfl⟩

theorem wit_IdentifyAndPing : dead.ready = true ∧ ([0] : List Byte) ≠ [] := by decide
theorem wit_LinkStatusAndUnknownKind : dead.ready = true ∧ ([0] : List Byte) ≠ [] ∧
    (0x00 : Byte) ∉ requestKinds ∧ (0x14 : Byte) ∉ requestKinds ∧ (0x44 : Byte) ∉ requestKinds ∧
    (0xFF : Byte) ∉ requestKinds := by decide

/-- One request waits in the queue. -/
def withRequest (kind : Byte) (body : List Byte) : State :=
  { dead with link := { inbound := [{ kind := kind, tag := 5, body := body }] } }

theorem wit_RequestStartRunsTheHead :
    (withRequest 0x10 [1]).link.serving = none ∧ ([] : List Request).length ≤ 3 ∧
    (withRequest 0x10 [1]).link.inbound = [{ kind := 0x10, tag := 5, body := [1] }] ∧
    (withRequest 0x11 [1, 1]).link.inbound = [{ kind := 0x11, tag := 5, body := [1, 1] }] ∧
    (withRequest 0x11 [1, 2]).link.inbound = [{ kind := 0x11, tag := 5, body := [1, 2] }] ∧
    (withRequest 0x21 [1, 1, 2]).link.inbound = [{ kind := 0x21, tag := 5, body := [1, 1, 2] }] ∧
    (withRequest 0x31 [0xFF, 0, 0]).link.inbound = [{ kind := 0x31, tag := 5, body := [0xFF, 0, 0] }] ∧
    (withRequest 0x43 []).link.inbound = [{ kind := 0x43, tag := 5, body := [] }] ∧
    (withRequest 0x02 []).link.inbound = [{ kind := 0x02, tag := 5, body := [] }] ∧
    (withRequest 0x02 []).link.replySlotFree = true ∧
    ({ dead with link := { serving := some (.store 0x42 5) } } : State).link.serving = some (.store 0x42 5) := by decide

/-- A reply waits, `n` reply slots being taken. -/
def replyWaits (n : Nat) : State :=
  { dead with link := { serving := some (.reply 0x02 5 [0]), outbound := List.replicate n { notice := false, kind := 0x82, tag := 1, body := [0] } } }

theorem wit_RepliesEnterAndLeaveSlots : (replyWaits 3).link.serving = some (.reply 0x02 5 [0]) ∧
    (replyWaits 3).link.replies.length < 4 ∧ 4 ≤ (replyWaits 4).link.replies.length ∧
    (replyWaits 1).link.outbound = [{ notice := false, kind := 0x82, tag := 1, body := [0] }] := by decide

theorem wit_EmptyQueueLetsTimePass :
    ((replyWaits 3).pending = [] ∧ (replyWaits 3).link.serving = some (.reply 0x02 5 [0]) ∧ (replyWaits 3).link.replySlotFree = true) ∧
    ((withRequest 0x02 []).pending = [] ∧ (withRequest 0x02 []).link.serving = none ∧ (withRequest 0x02 []).link.inbound ≠ []) ∧
    ((replyWaits 4).pending = [] ∧ (replyWaits 4).link.serving = some (.reply 0x02 5 [0]) ∧
      (replyWaits 4).link.replySlotFree = false) ∧
    (dead.pending = [] ∧ dead.link.serving = none ∧ dead.link.inbound = []) := by decide

/-- The inbound queue is full, and `n` reply slots are taken. -/
def fullQueue (n : Nat) : State :=
  { replyWaits n with link := { (replyWaits n).link with
      serving := none, inbound := List.replicate 4 { kind := 0x02, tag := 5, body := [] } } }

theorem wit_ValidFrameIsQueuedOrBusy : dead.link.parser = .hunting ∧ (List.replicate 480 (0 : Byte)).length ≤ 480 ∧
    dead.link.queued < 4 ∧ (fullQueue 3).link.parser = .hunting ∧ (fullQueue 3).link.queued = 4 ∧
    (fullQueue 3).link.replies.length < 4 ∧ 4 ≤ (fullQueue 4).link.replies.length := by
  refine ⟨rfl, Nat.le_of_eq List.length_replicate, by decide, rfl, by decide, by decide, by decide⟩

def readingPart : State := { dead with link := { parser := .reading [5] } }

theorem wit_DiscardedFrames : dead.link.parser = .hunting ∧ 480 < num16 0xE1 0x01 ∧
    ([0, 0] : List Byte) ≠ le16 (crc16 (le16 0 ++ [0x02, 0x01])).toNat ∧
    readingPart.link.parser = .reading [5] := by decide +kernel
theorem wit_BreakClearsTheLink : (replyWaits 1).link.outbound = { notice := false, kind := 0x82, tag := 1, body := [0] } :: [] := rfl

/-- A full set: 48 entries of one kind. -/
def fullSet : State :=
  { rich with cond := { rich.cond with entries := (numbersFrom 1 48).map fun n => newEntry { t := 5 } .misroute n } }

theorem wit_RaiseRule : (∃ e ∈ rich.cond.entries, e.kind = .trip ∧ e.subject = 1) ∧
    (∀ e ∈ rich.cond.entries, ¬(e.kind = CondKind.emergency ∧ e.subject = 0)) ∧ rich.cond.entries.length < 48 ∧
    (∀ e ∈ fullSet.cond.entries, ¬(e.kind = CondKind.emergency ∧ e.subject = 0)) ∧
    48 ≤ fullSet.cond.entries.length := by decide +kernel
theorem wit_ClearConditionRules : State.reset.ready = true ∧ CondKind.mapInvalid ≠ .conditionOverflow ∧
    CondKind.ofCode (19 : Byte).toNat = some .mapInvalid ∧ num16 0 0 ≤ 9999 ∧
    State.reset.cond.entries.find? (·.isOf .mapInvalid (num16 0 0)) =
      some { kind := .mapInvalid, subject := 0, first := { t := 0 }, last := { t := 0 }, count := 1, cause := some .holding } ∧
    num16 0x0F 0x27 = 9999 := by decide
theorem wit_SetEnablesRule : dead.ready = true ∧ (List.replicate 24 (1 : Byte)).length = 24 ∧
    (∀ b ∈ List.replicate 24 (1 : Byte), b = 0 ∨ b = 1) ∧ (∃ b ∈ List.replicate 24 (2 : Byte), b ≠ 0 ∧ b ≠ 1) ∧
    ([] : List Byte).length ≠ 24 := by decide
theorem wit_HostSilenceReleasesPins : (withSwitch { aSwitch with pin := some .turn }).silenceOver = true ∧
    ((withSwitch { aSwitch with pin := some .turn }).switches.map (·.number)).Nodup ∧ live.silenceOver = true ∧
    (∃ w ∈ (withSwitch { aSwitch with pin := some .turn }).switches, w.pin.isSome = true) ∧
    (∃ w ∈ live.switches, w.pin = none) := by decide
theorem wit_SectionAndFeederReads : dead.ready = true ∧ dead.section? (1 : Byte).toNat = some (aSection .dead) ∧
    (part { aSection .dead with number := 16 }).section? (16 : Byte).toNat = some { aSection .dead with number := 16 } ∧
    dead.feeder? (1 : Byte).toNat = some (aFeeder 1) ∧ dead.context? (1 : Byte).toNat = some (aContext 1) ∧
    16 < (17 : Byte).toNat ∧ 24 < (25 : Byte).toNat ∧ dead.section? (16 : Byte).toNat = none ∧
    dead.feeder? (24 : Byte).toNat = none ∧ ([] : List Byte).length ≠ 1 := by decide
theorem wit_SectionOrdersWithoutEffect : dead.ready = true ∧ dead.section? 1 = some (aSection .dead) ∧
    ({ dead with sec := { dead.sec with emergency := true } } : State).sec.emergency = true ∧ dead.sec.emergency = false ∧
    live.section? 1 = some liveSection ∧ liveSection.state = .live ∧
    (part { aSection .dead with feeders := [1, 9] }).feeder? 9 = none ∧
    (part (aSection .unsettled)).section? 1 = some (aSection .unsettled) ∧
    isolated.section? 1 = some (aSection .isolated) ∧ (aSection .isolated).state ∉ [.dead, .closing, .live, .unsettled] ∧
    (part { aSection .testing with stop := true }).section? 1 = some { aSection .testing with stop := true } := by decide
theorem wit_EnergiseClosesSection : dead.ready = true ∧ dead.section? 1 = some (aSection .dead) ∧
    dead.sec.emergency = false ∧ dead.nodesPresent (aSection .dead) = true := by decide
theorem wit_DeEnergiseByState : live.ready = true ∧ live.section? 1 = some liveSection ∧
    closing.ready = true ∧ (closing.section? 1).map (·.state) = some .closing ∧
    tripped.ready = true ∧ (tripped.section? 1).map (·.state) = some .tripped ∧
    waiting.ready = true ∧ (waiting.section? 1).map (·.state) = some .recloseWait ∧
    testing.ready = true ∧ (testing.section? 1).map (fun x => (x.state, x.stop, x.test)) =
      some (.testing, false, some { unit := 1, channel := 1 }) ∧
    (testing.testUnit? 1).map (·.queue.head?) = some (some 1) ∧
    ((testing.modTestUnit 1 fun u => { u with queue := [2, 1] }).testUnit? 1).map (·.queue.head?) = some (some 2) := by decide
theorem wit_IsolateRestoreRelease : dead.ready = true ∧ dead.section? 1 = some (aSection .dead) ∧
    (locked.section? 1).map (·.state) = some .lockedOut ∧ (isolated.section? 1).map (·.state) = some .isolated ∧
    live.section? 1 = some liveSection ∧ liveSection.state = .live := by decide
theorem wit_EmergencyInput : (∀ s ∈ [live, closing, tripped, waiting, testing, dead], s.sec.emergency = false) ∧
    (live.sec.sections.map (·.number)).Nodup ∧ testing.sec.sections.length = 1 ∧
    ({ dead with sec := { dead.sec with emergency := true } } : State).sec.emergency = true := by decide
theorem wit_GetTripMarksRead : rich.ready = true ∧ rich.sec.trips.length = 1 ∧ (1 : Byte).toNat = 0 + 1 ∧
    (rich.sec.trips.map (·.read)) = [false] ∧ rich.sec.trips.length < (2 : Byte).toNat ∧ (8 : Byte).toNat ≤ 8 ∧
    (∀ r ∈ dead.sec.trips, r.read = true) ∧ (8 < (9 : Byte).toNat ∧ (254 : Byte).toNat < 255) ∧
    ([] : List Byte).length ≠ 1 := by decide
theorem wit_SetProtectionRule : dead.ready = true ∧ (protectionBytes settings).length = 16 ∧
    (10 ≤ settings.dStart ∧ settings.dHold ≤ settings.dStart ∧ settings.kMin ≤ settings.kMax ∧ settings.nOv ≤ 4000) ∧
    (dead.feeder? (1 : Byte).toNat).isSome = true ∧ (dead.context? (1 : Byte).toNat).isSome = true ∧
    (protectionBytes { settings with dStart := 501 }).length = 16 ∧ dead.feeder? (24 : Byte).toNat = none ∧
    24 < (25 : Byte).toNat ∧ ([] : List Byte).length ≠ 17 := by decide
theorem wit_SwitchReads : live.ready = true ∧ live.switch? (1 : Byte).toNat = some aSwitch ∧ aSwitch.state ≠ .fault ∧
    live.section? 1 = some liveSection ∧ 24 < (25 : Byte).toNat ∧ live.switch? (24 : Byte).toNat = none ∧
    ([] : List Byte).length ≠ 1 ∧ ([] : List Byte).length ≠ 2 := by decide
theorem wit_PinsDecideThrows : live.ready = true ∧ live.switch? 1 = some aSwitch ∧
    (aSwitch.state = .set ∧ aSwitch.zone = 0 ∧ live.supplyLive aSwitch = true ∧ aSwitch.position ≠ some .turn) ∧
    (withSwitch { queued with queue := [request 412 .turn], pin := some .straight }).ready = true ∧
    dead.supplyLive aSwitch = false ∧ (3 : Byte) ≠ 1 ∧ (0 : Byte) ≠ 2 := by decide
theorem wit_SwitchOrders : live.ready = true ∧ live.switch? 1 = some aSwitch ∧ (withSwitch queued).switch? 1 = some queued ∧
    queued.head?.isSome = true ∧ (withSwitch broken).switch? 1 = some broken ∧ broken.state = .fault := by decide
theorem wit_AddRequestRule : live.ready = true ∧ (withSwitch queued).switch? 1 = some queued ∧ num16 0x9C 0x01 = 412 ∧
    (∃ v, live.vehicle? 412 = some v ∧ v.inSight = true) ∧ queued.queue = [] ++ request 412 .straight :: [request 207 .turn] ∧
    (∀ q ∈ aSwitch.queue, q.vehicle ≠ 412) ∧ aSwitch.queue.length < 6 ∧
    6 ≤ ((numbersFrom 1 6).map (fun v => request v .turn)).length ∧
    (∀ q ∈ (numbersFrom 1 6).map (fun v => request v .turn), q.vehicle ≠ 412) ∧ live.vehicle? 9999 = none :=
  ⟨rfl, rfl, rfl, ⟨aVehicle 412, rfl, rfl⟩, rfl, by decide, by decide, by decide, by decide, rfl⟩
theorem wit_ReadsChangeNothing : dead.ready = true ∧ dead.reg.vehicles[1]? = some (aVehicle 207) ∧ num16 207 0 = 207 ∧
    (∀ j, j < 1 → ∀ q, dead.reg.vehicles[j]? = some q → q.number ≠ 207) ∧ 9999 < num16 0x10 0x27 ∧
    dead.vehicle? (num16 0x0F 0x27) = none ∧ (64 : Byte).toNat ≤ 64 ∧ 64 < (65 : Byte).toNat ∧ (49 : Byte).toNat ≤ 49 ∧
    49 < (50 : Byte).toNat ∧ dead.ring.nodes[0]? = some (aNode 1 .feederUnit (some { kind := .feeder, index := 1 })) ∧
    dead.ring.nodes.length < (6 : Byte).toNat ∧ dead.ring.ringPort = some .a := by
  refine ⟨rfl, rfl, rfl, ?_, by decide, rfl, by decide, by decide, by decide, by decide, rfl, by decide, rfl⟩
  intro j hj q hq
  obtain rfl : j = 0 := by omega
  obtain rfl := Option.some.inj ((rfl : dead.reg.vehicles[0]? = some (aVehicle 412)).symm.trans hq)
  decide

/-- A vehicle with one fault entry. -/
def faulty : State :=
  dead.modVehicle 412 fun v => { v with faults := [{ kind := .traction, severity := .major, source := .vehicle, firstSeen := { t := 5 }, lastSeen := { t := 5 } }] }

theorem wit_VehicleCorrections : faulty.ready = true ∧ 9999 < num16 0x10 0x27 ∧ FaultKind.ofCode (7 : Byte).toNat = none ∧
    FaultKind.ofCode (4 : Byte).toNat = some .traction ∧ num16 0x9C 0x01 = 412 ∧
    (faulty.reg.vehicles[0]?).map (fun v => (v.number, v.faults.map (·.kind))) = some (412, [.traction]) ∧
    (faulty.vehicle? 207).map (·.faults) = some [] ∧ faulty.vehicle? 9999 = none := by decide
theorem wit_RingOrdersAndPortRules : dead.ready = true ∧ (1 : Byte) = u8 (portCode .b) ∧ (3 : Byte) = u8 PortMode.autoShut.code ∧
    2 ≤ (2 : Byte).toNat := by decide
theorem wit_ReadPageRule : dead.ready = true ∧ dead.map.valid = true ∧ State.reset.map.version = 0 ∧ (63 : Byte).toNat ≤ 63 ∧
    63 < (64 : Byte).toNat ∧ ([] : List Byte).length ≠ 1 := by decide

/-- A store operation has run for `ms` milliseconds. -/
def storing (op : Time → StoreOp) (ms : Nat) : State :=
  { dead with
    store := { dead.store with written := [63], busy := some (op (100000 - BitVec.ofNat 32 ms)) }
    link := { serving := some (.store 0x41 5) } }

def aWrite : Time → StoreOp := .write 63 (List.replicate 256 0x55)

theorem storing_ok : (storing aWrite 10).store.ok := by
  refine ⟨by decide, ?_, by decide, by decide, List.length_replicate, by decide⟩
  unfold Store.blankPages
  decide

theorem wit_StoreOperations : dead.ready = true ∧ 63 < (64 : Byte).toNat ∧ dead.store.written = [] ∧
    (63 : Byte).toNat ∈ (storing aWrite 10).store.written ∧ (0 : Byte).toNat ≤ 63 ∧ ([] : List Byte).length ≠ 257 ∧
    (∃ x ∈ live.sec.sections, x.state ∉ [.dead, .isolated, .lockedOut, .unsettled]) ∧
    (∀ x ∈ dead.sec.sections, x.state ∈ [.dead, .isolated, .lockedOut, .unsettled]) ∧
    (storing aWrite 10).link.serving = some (.store 0x41 5) ∧ (storing aWrite 10).link.replySlotFree = true ∧
    ((storing aWrite 9).time.now - (99991 : Time)).toNat < 10 ∧ 10 ≤ ((storing aWrite 10).time.now - (99990 : Time)).toNat ∧
    (storing StoreOp.erase 1500).store.busy = some (.erase 98500) ∧ 1500 ≤ ((storing StoreOp.erase 1500).time.now - (98500 : Time)).toNat := by
  decide
set_option maxRecDepth 100000 in
theorem wit_ApplyMapRule : (mapped dead).ready = true ∧ mapFault (mapped dead).store = none ∧ mapFault dead.store = some 0 ∧
    (∃ x ∈ (mapped live).sec.sections, x.state ∉ [.dead, .isolated, .lockedOut]) ∧
    (∀ x ∈ (mapped dead).sec.sections, x.state ∈ [.dead, .isolated, .lockedOut]) := by decide +kernel
theorem wit_BuiltTelegramReadsBack : ([removalParcel] : List Parcel).length ≤ 16 ∧
    (∀ p ∈ [removalParcel], p.kind ≠ 0xFF ∧ p.address < 65536 ∧ p.tally < 256) ∧
    (([removalParcel] : List Parcel).flatMap (·.bytes)).length ≤ 1490 := by decide

/-- The telegram of the period as it comes back on a port. -/
def returned (back : Bool) : List Byte :=
  let covered := [0, 9, if back then 1 else 0, 5] ++ le16 17 ++ blank 7
  covered ++ le32 (crc32 covered).toNat

set_option maxRecDepth 100000 in
theorem wit_Telegrams : dead.ring.receives .a = true ∧ dead.ring.receives .b = true ∧
    readTelegram (returned true) = some { origin := .a, number := 9, back := true, hops := 5, parcels := [] } ∧
    readTelegram (returned false) = some { origin := .a, number := 9, back := false, hops := 5, parcels := [] } ∧
    (dead.ring.port .a).outstanding = some 9 ∧ dead.ring.state ≠ .starting := by decide +kernel
theorem wit_TelegramsDiscarded : ((dead.modRing (·.modPort .b fun p => { p with mode := .shut })).ring.port .b).mode = .shut ∧
    dead.ring.receives .a = true ∧ ([] : List Byte).length < 10 ∧ 1500 < (List.replicate 1501 (0 : Byte)).length ∧
    (dead.ring.port .b).outstanding ≠ some 9 :=
  ⟨by decide, by decide, by decide, by rw [List.length_replicate]; omega, by decide⟩
theorem wit_GoodTelegramMovesRing : dead.ring.receives .b = true ∧
    (∃ g, readTelegram (returned false) = some g ∧ (g.back = true ↔ g.origin = PortId.b) ∧
      (dead.ring.port g.origin).outstanding = some g.number) ∧ dead.ring.state ≠ .starting :=
  ⟨by decide, ⟨_, wit_Telegrams.2.2.2.1, by decide, by decide⟩, by decide⟩

/-- The ring at the end of its 20th dark period. -/
def dark (st : RingState) : State := { dead with ring := { aRing with state := st, darkRun := 19 } }

/-- The switch unit has missed 19 settlements. -/
def nearlySilent : State :=
  { dead with ring := { aRing with nodes := someNodes.map fun n => if n.identity = 3 then { n with missRun := 19 } else n } }

theorem wit_SilenceOnTheRing : (∀ st ∈ [RingState.ring, .line, .starting],
      (dark st).ring.running = true ∧ (dark st).ring.goodSeen = false ∧ (dark st).ring.darkRun = 19) ∧
    (nearlySilent.heardNode? 3).map (fun n => (n.state, n.missRun)) = some (.present, 19) := by decide
theorem wit_IdleContextFollowsCurrent : (aContext 1).status = .idle := rfl

/-- A context in the middle of a rise, after sample s6 of the manual's first worked case (2.9). -/
def rising : Context :=
  { aContext 1 with status := .armed, rising := true, iPrev := some 2560, iBase := 1230, k := 5, limit := 1440, nRise := 3, peak := 2560 }

theorem wit_RiseComputation : rising.status = .armed ∧ rising.iPrev = some 2560 ∧ rising.miss < 8 ∧ (-6000 : Int) ≤ 2790 ∧
    (2790 : Int) ≤ 6000 ∧ (rising.settings.dHold : Int) ≤ 2790 - 2560 ∧ (rising.limit : Int) ≤ 2790 - rising.iBase ∧
    rising.settings.kMin ≤ rising.k + 1 ∧ (rising.good 3 2580 600).2 = none ∧
    ({ rising with rising := false } : Context).rising = false ∧ (2620 : Int) - 2560 = rising.settings.dStart ∧
    (({ rising with rising := false } : Context).good 3 2619 600).2 = none ∧
    (({ rising with rising := false } : Context).good 3 2620 600).2 = none := by decide
theorem wit_ProtectionEvents :
    (armed { rising with k := 79, limit := 6000 }).context? 1 = some { rising with k := 79, limit := 6000 } ∧
    (rising.settings.dHold : Int) ≤ 2590 - 2560 ∧ rising.settings.kMax ≤ 79 + 1 ∧
    (armed { rising with rising := false, iPrev := some 3200, ov := 399 }).context? 1 =
      some { rising with rising := false, iPrev := some 3200, ov := 399 } ∧ rising.settings.nOv ≤ 399 + 1 ∧
    (armed { rising with rising := false, iPrev := some 6000, sat := 1 }).context? 1 =
      some { rising with rising := false, iPrev := some 6000, sat := 1 } ∧
    7 ≤ ({ rising with miss := 7 } : Context).miss ∧ ({ rising with miss := 7 } : Context).miss < 8 := by decide
/-- A context that has become BLIND. -/
def blind : Context := { aContext 1 with status := .blind, iPrev := some 800, miss := 8 }

theorem wit_RiseComputation_resynchronising : blind.status = .blind ∧ blind.status ≠ .idle ∧ 8 ≤ blind.miss ∧ blind.latch = false ∧
    ({ aContext 1 with status := .armed } : Context).status ≠ .idle ∧ ({ aContext 1 with status := .armed } : Context).iPrev = none ∧
    ({ blind with latch := true } : Context).latch = true := by decide
theorem wit_ProtectionEvents_blind : ({ live with prot := [blind, aContext 2] } : State).context? 1 = some blind ∧
    live.section? 1 = some liveSection ∧ 1 ∈ liveSection.feeders ∧ blind.latch = false ∧ 8 ≤ blind.miss := by decide
theorem wit_TripEntersTripped : live.feeder? 1 = some (aFeeder 1) ∧ live.section? 1 = some liveSection ∧
    1 ∈ liveSection.feeders ∧ liveSection.feeders.length ≤ 2 ∧ (aFeeder 1).latch = false ∧ live.sec.trips.length < 8 ∧
    ({ aFeeder 1 with latch := true } : Feeder).latch = true ∧
    (closing.section? 1).map (fun x => (x.state, x.origin)) = some (.closing, some .energise) := by decide
theorem wit_FeederReportRule : closing.feeder? 1 = some (aFeeder 1) ∧ (aFeeder 1).ownRelease = some 4 ∧
    (closing.modFeeder 2 fun f => { f with breaker := .closed }).feeder? 2 = some { aFeeder 2 with breaker := .closed } ∧
    (tripped.modFeeder 1 (·.openOrder { t := 99990 })).feeder? 1 = some ((aFeeder 1).openOrder { t := 99990 }) ∧
    (tripped.section? 1).bind (·.destination) = some .recloseWait ∧ (aFeeder 2).order ≠ .opens ∧
    (aSection .dead).state ∈ [.dead, .recloseWait, .testing, .lockedOut] ∧ (aFeeder 1).order = .idle := by decide
theorem wit_ConfirmationAndAdoptionTimeouts :
    (closing.section? 1).map (fun x => (x.state, x.closingSince)) = some (.closing, some 99700) ∧
    300 ≤ (closing.time.now - 99700).toNat ∧ (closing.time.now - 99701).toNat < 300 ∧
    (tripped.modFeeder 1 (·.openOrder { t := 99900 })).feeder? 1 = some ((aFeeder 1).openOrder { t := 99900 }) ∧
    ((aFeeder 1).openOrder { t := 99900 }).confirming = true ∧ 100 ≤ (tripped.time.now - 99900).toNat ∧
    ({ dead with sec := { dead.sec with adoption := .running 99000 } } : State).sec.adoption = .running 99000 ∧
    1000 ≤ (dead.time.now - 99000).toNat ∧ (dead.sec.sections.map (·.number)).Nodup := by decide

/-- A suspect stands in the section. -/
def suspectIn (s : State) : State :=
  s.modVehicle 412 fun v => { v with faults := [{ kind := .insulation, severity := .major, source := .vehicle, firstSeen := { t := 5 }, lastSeen := { t := 5 } }] }

theorem wit_RecloseDelayRule : (waiting.section? 1).map (fun x => (x.state, x.delayStart, x.test.map (·.unit))) =
      some (.recloseWait, some 99000, some 1) ∧
    100 * 10 ≤ (waiting.time.now - 99000).toNat ∧ (waiting.time.now - 99001).toNat < 100 * 10 ∧
    ((suspectIn waiting).reg.vehicles.any (fun v => v.faults.any (fun e => e.kind == .insulation))) = true ∧
    (waiting.testUnit? 1).map (fun u => (u.queue, waiting.nodePresent u.node)) = some ([], true) ∧
    ((waiting.modTestUnit 1 fun u => { u with queue := [2] }).testUnit? 1).map (·.queue) = some [2] ∧
    waiting.nodesPresent { aSection .recloseWait with test := none } = true := by decide
theorem wit_TestEndRule : (testing.testUnit? 1).map (fun u => (u.queue, u.orderedAt, u.phase)) = some ([1], some 99000, .ordered) ∧
    (testing.section? 1).map (fun x => (x.state, x.stop, x.testsUsed)) = some (.testing, false, 0) ∧ 1000 ≤ (testing.time.now - 99000).toNat ∧
    ((testing.modSection 1 fun x => { x with testsUsed := 2 }).section? 1).map (fun x => (x.state, x.testsUsed)) = some (.testing, 2) ∧
    ((testing.modTestUnit 1 fun u => { u with phase := .stopping }).testUnit? 1).map (·.phase) = some .stopping := by decide
theorem wit_WindowWatchAndAge : (waiting.section? 1).map (fun x => (x.window, x.windowStart)) = some (.opened, some { t := 40000 }) ∧
    1000 * 60 ≤ (waiting.time.now - 40000).toNat ∧ (rich.sec.trips[0]?).map (·.watching) = some true ∧
    2000 ≤ ((101000 : Time) - 99000).toNat := by decide
theorem wit_SwitchAndSightTimeouts : (withSwitch moving).switch? 1 = some moving ∧ moving.state = .moving ∧
    100 * moving.tThrow ≤ ((withSwitch moving).time.now - 98000).toNat ∧
    ((withSwitch moving).time.now - 98001).toNat < 100 * moving.tThrow ∧
    request 412 .straight ∈ queued.queue ∧ (request 412 .straight).inPassage = false ∧
    1000 * oneMap.tReq ≤ ((219000 : Time) - 99000).toNat ∧
    1000 * oneMap.tHold ≤ ((159000 : Time) - 99000).toNat ∧ ({ queued with aspect := .stop } : SwitchPoint).aspect = .stop ∧
    live.vehicle? 412 = some (aVehicle 412) ∧ (aVehicle 412).inSight = true ∧
    1000 * oneMap.tSight ≤ ((699000 : Time) - 99000).toNat := by decide

/-! ## Witnesses for the further clauses -/

set_option maxRecDepth 100000 in
theorem wit_ResetOfAnErasedMap_valid : (mapped dead).store.busy = none ∧ mapFault (mapped dead).store = none := by
  decide +kernel

theorem erasing_ok : (storing StoreOp.erase 700).store.ok := by
  refine ⟨by decide, ?_, trivial⟩
  unfold Store.blankPages
  decide

theorem wit_ResetOfAnErasedMap_cut : (storing aWrite 10).store.ok ∧ (storing aWrite 10).store.busy.isSome = true ∧
    (storing StoreOp.erase 700).store.ok ∧ (storing StoreOp.erase 700).store.busy.isSome = true :=
  ⟨storing_ok, rfl, erasing_ok, rfl⟩

/-- A request of the tag 5. -/
def five (kind : Byte) (body : List Byte) : Request := { kind := kind, tag := 5, body := body }

theorem wit_RequestStartRunsTheHead_rows :
    (five 0x10 [1]).row = some (.getSection 5 [1]) ∧ (five 0x11 [1, 5]).row = some (.release 5 [1]) ∧
    (five 0x21 [1, 6, 0]).row = some (.clearQueue 5 [1, 0]) ∧ (five 0x31 [0xFF, 0, 0]).row = some (.clearConditionAll 5 [0, 0]) ∧
    (five 0x3A [2, 0, 0]).row = some (.reopen 5 [0, 0]) ∧ (five 0x42 []).row = some (.eraseMap 5 []) ∧
    (five 0x44 [7]).row = some (.unknownKind 0x44 5 [7]) ∧ (five 0x11 [1, 6]).row = none ∧ (five 0x21 [1, 1]).row = none ∧
    (five 0x3A [0, 0, 0]).row = none ∧ (withRequest 0x11 [1, 6]).link.replySlotFree = true ∧
    ({ withRequest 0x02 [] with link := { (withRequest 0x02 []).link with
        outbound := (replyWaits 4).link.outbound } } : State).link.replySlotFree = false ∧ dead.link.inbound = [] := by decide

/-- The full set with an overflow entry whose cause is as given. -/
def overflowed (c : Cause) : State :=
  { fullSet with cond := { fullSet.cond with overflow := some { kind := .conditionOverflow, subject := 0, first := { t := 5 }, last := { t := 5 }, count := 1, cause := some c } } }

theorem wit_ClearConditionRules_more : (overflowed .holding).ready = true ∧ (overflowed .ended).cond.overflow.isSome = true ∧
    ((overflowed .holding).cond.entries.find? (·.isOf .misroute 48)).map (·.cause) = some none ∧
    CondKind.ofCode (24 : Byte).toNat = some .conditionOverflow ∧ num16 1 0 ≠ 0 ∧ (24 : Nat) < (25 : Byte).toNat ∧
    9999 < num16 0x10 0x27 ∧ CondKind.ofCode (19 : Byte).toNat = some .mapInvalid ∧
    (∀ e ∈ dead.cond.entries, ¬(e.kind = CondKind.mapInvalid ∧ e.subject = 0)) ∧ dead.cond.overflow = none ∧
    ([24, 0] : List Byte).length ≠ 3 ∧ ([0] : List Byte).length ≠ 2 := by decide +kernel

theorem wit_SwitchOrders_more : (withSwitch moving).switch? 1 = some moving ∧ moving.state ≠ .set ∧
    (withSwitch { aSwitch with zone := 1 }).switch? 1 = some { aSwitch with zone := 1 } ∧
    ({ queued with queue := [request 412 .turn] } : SwitchPoint).head? = some (request 412 .turn) ∧
    aSwitch.position ≠ some (request 412 .turn).leg ∧ aSwitch.pin = none := by decide

theorem wit_SwitchOrders_pinned : (withSwitch { queued with pin := some .turn }).switch? 1 = some { queued with pin := some .turn } ∧
    queued.state = .set ∧ queued.zone = 0 ∧ (withSwitch queued).supplyLive queued = true ∧ queued.position ≠ some .turn ∧
    (∀ leg, ({ queued with pin := some .straight } : SwitchPoint).pin = some leg → queued.position = some leg) ∧
    aSwitch.state ≠ .fault := by decide

/-- A report of the only beacon. -/
def report (vehicle route : Nat) (faults : List (Nat × Nat)) : BeaconReport :=
  { number := 57, vehicle := vehicle, route := route, pole := 1, faults := faults }

/-- A switch queue of six requests. -/
def crowded : SwitchPoint := { aSwitch with queue := (numbersFrom 1 6).map (fun v => request v .straight), headSince := some 99000 }

theorem wit_AddRequestRule_routes : (live.beacon? 1).map (fun b => (b.lastReport, b.approach)) = some (none, [1]) ∧
    (live.vehicle? (report 412 21 []).vehicle).isSome = true ∧ (withSwitch crowded).switch? 1 = some crowded ∧
    6 ≤ crowded.queue.length ∧ (∀ q ∈ crowded.queue, q.vehicle ≠ 412) ∧
    live.map.routes = [] ++ { code := 21, switch := 1, leg := .turn } :: [] ∧
    (∀ e ∈ live.map.routes, ¬(e.code = 999 ∧ e.switch = 1)) := by decide

/-- The beacon stands before two switch points. -/
def twoAhead : State :=
  (withSwitch queued).modBeacon 1 fun b => { b with approach := [1, 2] }

theorem wit_AddRequestRule_new : (({ twoAhead with switches := [queued, { aSwitch with number := 2 }] } : State).beacon? 1).map
      (fun b => (b.approach, b.lastReport)) = some ([1, 2], none) ∧ [1, 2].Nodup ∧ 2 ∈ [1, 2] ∧
    (({ twoAhead with switches := [queued, { aSwitch with number := 2 }] } : State).switch? 2).isSome = true ∧
    twoAhead.vehicle? (report 9998 21 []).vehicle = none ∧ twoAhead.reg.vehicles.length < 64 := by decide
theorem wit_AddRequestRule_uncertain :
    ({ dead with switches := [{ aSwitch with state := .uncertain, position := none }] } : State).switch? 1 =
      some { aSwitch with state := .uncertain, position := none } ∧
    ({ dead with switches := [{ aSwitch with state := .uncertain, position := none }] } : State).supplyLive
      { aSwitch with state := .uncertain, position := none } = false := by decide

/-- A throw to TURN is about to be completed, and the head asks for STRAIGHT. -/
def nextThrow : SwitchPoint := { moving with queue := [request 412 .straight], headSince := some 99000 }

/-- The slot that shows TURN, with a number of entries. -/
def showsTurn (entries : Byte) : SwitchReport := { contacts := .turn, entries := entries, exits := 0, dewirements := 0 }

theorem wit_AddRequestRule_completes : (withSwitch nextThrow).switch? 1 = some nextThrow ∧ nextThrow.baseline = true ∧
    nextThrow.state = .moving ∧ nextThrow.throw.map (·.target) = (showsTurn 1).contacts.leg? ∧ nextThrow.zone = 0 ∧
    (showsTurn 1).entries - nextThrow.entries = 1 ∧ (showsTurn 1).exits = nextThrow.exits ∧
    (showsTurn 1).dewirements = nextThrow.dewirements ∧
    nextThrow.queue = [] ++ request 412 .straight :: [] ∧ (request 412 .straight).leg ≠ .turn ∧
    (∀ q ∈ moving.queue, q.inPassage = true) := by decide

/-- R76, R84, R85: a vehicle counted in the slot that completes a throw has entered a SET switch, and the next throw waits. -/
theorem test_entry_completing_throw : (switchSlot 1 (showsTurn 1) (withSwitch nextThrow)).switches.map
    (fun w => (w.state, w.position, w.zone, w.fault)) = [(.set, some .turn, 1, none)] := by decide

/-- R84, R85: without the entry the next throw starts at once. -/
theorem test_next_throw_at_once : (switchSlot 1 (showsTurn 0) (withSwitch nextThrow)).switches.map
    (fun w => (w.state, w.throw.map (·.target))) = [(.moving, some .straight)] := by decide

/-- A request in passage. -/
def passing (v : Nat) : SwitchRequest := { request v .straight with inPassage := true }

/-- Two vehicles in the zone, one request waiting. -/
def occupied : SwitchPoint := { aSwitch with zone := 2, queue := [passing 412, request 207 .turn], headSince := some 99000 }

theorem wit_AddRequestRule_counts : (withSwitch queued).switch? 1 = some queued ∧ queued.baseline = true ∧
    (queued.state = .set ∧ Contacts.straight.leg? = queued.position) ∧ ((1 : Byte) - queued.entries).toNat = 1 ∧
    queued.zone < 3 ∧ queued.position = some (request 412 .straight).leg ∧ queued.position ≠ some (request 207 .turn).leg ∧
    (∀ q ∈ aSwitch.queue, q.inPassage = true) ∧ (3 : Nat) ≤ ({ occupied with zone := 3 } : SwitchPoint).zone ∧
    0 < occupied.zone ∧ occupied.queue = [] ++ passing 412 :: [request 207 .turn] ∧
    ({ occupied with zone := 1 } : SwitchPoint).target? = some .turn ∧ live.supplyLive occupied = true ∧
    broken.state = .fault ∧ broken.baseline = true ∧ (live.vehicle? 412).map (fun v => decide (v.faults.length < 4)) = some true ∧
    moving.baseline = true ∧ moving.zone = 0 := by decide

/-- 64 records, every one IN_SIGHT. -/
def fullTable : State := { live with reg := { live.reg with vehicles := (numbersFrom 1 64).map aVehicle } }

/-- 64 records of which the second is OUT_OF_SIGHT. -/
def oneUnseen : State := fullTable.modVehicle 2 fun v => { v with inSight := false, sect := none }

/-- A vehicle with four fault entries, the third of which gives way. -/
def fourFaults : State :=
  let e (k : FaultKind) (sev : Severity) (src : FaultSource) : FaultEntry :=
    { kind := k, severity := sev, source := src, firstSeen := { t := 5 }, lastSeen := { t := 5 } }
  live.modVehicle 412 fun v => { v with faults :=
    [e .dewired .major .wayside, e .insulation .major .vehicle, e .traction .minor .vehicle, e .auxSupply .major .vehicle] }

theorem wit_VehicleCorrections_reports : live.beacon? 1 = some { number := 1, node := 4, sect := 1, approach := [1] } ∧
    ((live.modBeacon 1 fun b => { b with lastReport := some 57 }).beacon? 1).map (·.lastReport) =
      some (some (report 412 21 []).number) ∧
    9999 < (report 10000 0 []).vehicle ∧ (live.vehicle? 412).isSome = true ∧ live.vehicle? 9999 = none ∧
    live.reg.vehicles.length < 64 ∧ (reportedFaults [] [(1, 2), (1, 1), (7, 1), (4, 1)]).length = 2 ∧
    64 ≤ fullTable.reg.vehicles.length ∧ fullTable.vehicle? 412 = none := by decide +kernel
theorem wit_VehicleCorrections_evicts : oneUnseen.vehicle? 412 = none ∧ 64 ≤ oneUnseen.reg.vehicles.length ∧
    (oneUnseen.reg.vehicles.map (·.number)).Nodup ∧ (oneUnseen.reg.vehicles.map (·.inSight)).take 3 = [true, false, true] ∧
    oneUnseen.reg.vehicles = [aVehicle 1] ++ { aVehicle 2 with inSight := false, sect := none } ::
      (numbersFrom 3 62).map aVehicle ∧
    (∀ x ∈ [aVehicle 1] ++ (numbersFrom 3 62).map aVehicle, x.inSight = true) := by decide +kernel
theorem wit_VehicleCorrections_fullRecord : (fourFaults.vehicle? 412).map (fun v => v.faults.map (fun e => (e.kind, e.severity, e.source))) =
      some [(.dewired, .major, .wayside), (.insulation, .major, .vehicle), (.traction, .minor, .vehicle), (.auxSupply, .major, .vehicle)] ∧
    reportedFaults [] [(1, 2), (4, 1), (6, 2), (5, 2)] =
      [{ kind := .insulation, severity := .major }, { kind := .traction, severity := .minor },
        { kind := .auxSupply, severity := .major }, { kind := .poleHead, severity := .major }] := by decide

theorem wit_RingOrdersAndPortRules_more : 4 ≤ (4 : Byte).toNat ∧ ([0] : List Byte).length ≠ 2 ∧
    (0 : Byte) = u8 (portCode .a) ∧ (2 : Byte) = u8 PortMode.auto.code := by decide

theorem wit_StoreOperations_noSlot :
    ({ storing aWrite 10 with link := { (replyWaits 4).link with serving := some (.store 0x41 5) } } : State).link.replySlotFree =
      false := by decide

/-- The map of the tests with one byte of page 1 changed. -/
def spoilt (offset : Nat) (b : Byte) : Store :=
  { mem := writeByte (mapped dead).store.mem (256 + offset) b, written := [1] }

set_option maxRecDepth 100000 in
/-- R173, 9.3: what each header fault looks like, and where it is reported. -/
theorem wit_ApplyMapRule_faults :
    (1 ∉ ({ (mapped dead).store with written := [] } : Store).written) ∧ mapWord (spoilt 0 0).mem 0 ≠ 0xA55A ∧
    mapWord (mapped dead).store.mem 0 = 0xA55A ∧ mapByte (spoilt 4 17).mem 4 = 17 ∧ mapByte (spoilt 11 2).mem 11 = 2 ∧
    [mapFault (spoilt 0 0), mapFault (spoilt 4 17), mapFault (spoilt 11 2), mapFault (spoilt 12 0), mapFault (spoilt 20 1)] =
      [some 0, some 4, some 11, some 12, some 12] := by decide +kernel

/-- The ring of the tests in a state and with a discovery. -/
def ringIn (st : RingState) (d : Option Discovery) : State := { dead with ring := { aRing with state := st, discovery := d } }

/-- Both ports take a mode. -/
def bothPorts (m : PortMode) (s : State) : State :=
  s.modRing fun r => { r with a := { r.a with mode := m }, b := { r.b with mode := m } }

/-- The next state of a command, to look at. -/
def after (c : Instr) (s : State) : State :=
  match exec c s with
  | .next t => t
  | .fault _ => s
  | .refused _ => s

theorem wit_RingPeriodSends : (after (.ringPeriod []) dead).ring.state = .ring ∧
    (after (.ringPeriod []) (ringIn .line none)).ring.state = .line ∧
    (after (.ringPeriod []) (ringIn .starting (some { shape := .closed }))).ring.discovery.map (·.shape) = some .closed ∧
    (after (.ringPeriod []) (ringIn .starting (some {}))).ring.discovery.map (·.shape) = some .undecided ∧
    (after (.ringPeriod []) dead).ring.a.maySend = true ∧
    (after (.ringPeriod []) (dead.modRing (·.modPort .a fun p => { p with mode := .shut }))).ring.a.maySend = false ∧
    (after (.ringPeriod []) (dead.modRing (·.modPort .a fun p => { p with mode := .shut }))).ring.b.sentLast = true ∧
    (after (.ringPeriod []) (bothPorts .shut dead)).ring.recovery = true := by decide +kernel

/-- A node of the part is SILENT. -/
def silence (identity : Nat) (s : State) : State :=
  s.modRing fun r => { r with nodes := r.nodes.map fun n => if n.identity = identity then { n with state := .silent } else n }

/-- A part whose beacon has reports pending. -/
def reportsWait : State := dead.modBeacon 1 fun b => { b with reportsHeld := 2, lastReport := some 56 }

set_option maxRecDepth 100000 in
theorem wit_RingPeriodSends_carries : (after (.ringPeriod []) (silence 1 dead)).ring.nodes.any (fun n => n.state == .silent && n.role.isSome) = true ∧
    (silence 1 dead).ring.roleTurn = true ∧ (after (.ringPeriod []) (silence 1 dead)).ring.roleLast = some 0 ∧
    (after (.ringPeriod []) { dead with ring := { aRing with roleTurn := false } }).ring.statusLast = some 0 ∧
    (after (.ringPeriod []) { reportsWait with ring := { aRing with settledBeacons := [1] } }).ring.a.lastFetch = some 1 ∧
    (after (.ringPeriod []) { reportsWait with ring := { aRing with settledBeacons := [1] } }).ring.a.telegram.length =
      6 + (7 + 16) + (7 + 8) + (7 + 2) + (7 + 18) + (7 + 4) + 4 ∧
    (after (.ringPeriod []) (ringIn .starting (some {}))).ring.a.telegram.length = 6 + 16 * (7 + 3) + 4 ∧
    (after (.ringPeriod []) (ringIn .down none)).ring.a.telegram.length = 6 + 7 + 4 := by decide +kernel

/-- The telegram of port A as it comes back: `back` on A, otherwise on B, with its hop count and parcels. -/
def comesBack (back : Bool) (hops : Nat) (ps : List Parcel) : List Byte :=
  let covered := [0, 9, if back then 1 else 0, u8 hops] ++ le16 (10 + (parcelBytes ps).length) ++ parcelBytes ps
  covered ++ le32 (crc32 covered).toNat

def arrives (back : Bool) (hops : Nat) (ps : List Parcel) : Telegram :=
  { origin := .a, number := 9, back := back, hops := hops, parcels := ps }

/-- Four hops, and the period's other telegram still out. -/
def midPeriod : State := dead.modRing fun r => { r with b := { r.b with outstanding := some 3, unreturned := true } }

/-- A role exchange of feeders with the slot of feeder 1 served: CLOSED, own-release count 4, 800 A, 600 V. -/
def feederParcel (tally : Nat) : Parcel :=
  { kind := 3, mode := 3, address := 1, tally := tally, data := [0, 1, 2, 4, 0x20, 3, 0x58, 2] }

def switchParcel : Parcel := { kind := 3, mode := 3, address := 2, tally := 1, data := [0, 0, 1, 1, 0, 0, 0, 0xFF] }

def beaconParcel : Parcel := { kind := 1, mode := 3, address := 3, tally := 1, data := [1, 2] }

/-- A served fetch: vehicle 412, route 21, no faults. -/
def fetched (tally : Nat) : Parcel :=
  { kind := 1, mode := 2, address := 4, tally := tally, data := [0xFF, 0xFF, 1, 57, 0x9C, 1, 21, 0, 1, 0, 0, 0, 0, 0, 0, 0, 0, 0] }

/-- A served test parcel: INJECTING, test number 5. -/
def tested : Parcel := { kind := 3, mode := 2, address := 5, tally := 1, data := [1, 1, 5, 1, 5, 0, 0xFF, 0xFF, 0xFF, 0xFF] }

set_option maxRecDepth 100000 in
theorem wit_takes (p : Parcel) (h : p ∈ [feederParcel 2, feederParcel 3, switchParcel, beaconParcel, fetched 1, fetched 0, tested]) :
    midPeriod.takes .b (comesBack false 4 [p]) (arrives false 4 [p]) ∧ midPeriod.inPeriod .b (arrives false 4 [p]) := by
  refine ⟨?_, by decide, rfl, .inr rfl⟩
  simp only [List.mem_cons, List.not_mem_nil, or_false] at h
  unfold State.takes
  rcases h with rfl | rfl | rfl | rfl | rfl | rfl | rfl <;> decide +kernel

theorem wit_TelegramsDiscarded_conflict : midPeriod.holders (arrives false 4 [feederParcel 3]) .b .feeder < (feederParcel 3).tally ∧
    midPeriod.holders (arrives false 4 [feederParcel 2]) .b .feeder = 2 ∧
    midPeriod.holders (arrives true 1 [feederParcel 2]) .a .feeder = 1 := by decide

theorem wit_GoodTelegramMovesRing_slots : (feederParcel 2).tally ≤ midPeriod.holders (arrives false 4 [feederParcel 2]) .b .feeder ∧
    (feederParcel 2).data = List.replicate (RoleKind.feeder.slotSize * (1 - 1)) 0 ++ [0, 1, 2, 4, 0x20, 3, 0x58, 2] ∧
    readFeederSlot (feederParcel 2).data = some { breaker := .closed, count := 4, current := 800, voltage := 600 } ∧
    (midPeriod.holder? .feeder 1).map (·.identity) = some 1 ∧ (midPeriod.feeder? 1).isSome = true ∧
    1 ∉ midPeriod.ring.settledFeeders ∧ (readSwitchSlot switchParcel.data).isSome = true ∧
    (midPeriod.holder? .switch 1).map (·.identity) = some 3 ∧ readBeaconSlot beaconParcel.data = some 2 ∧
    (midPeriod.holder? .beacon 1).map (·.identity) = some 4 ∧
    (readFetch (fetched 1).data).map (·.vehicle) = some 412 ∧ (fetched 0).tally ≠ 1 ∧
    (midPeriod.reg.beacons.find? (fun x => x.node == (fetched 1).address)).map (·.number) = some 1 ∧
    readTestReport tested.data = some (5, .injecting) ∧
    (midPeriod.sec.testUnits.find? (fun x => x.node == tested.address)).map (·.number) = some 1 := by decide

/-- The same period with node 1 SILENT, and with feeder 1 settled already. -/
def midSilent : State :=
  midPeriod.modRing fun r => { r with nodes := r.nodes.map fun n => if n.identity = 1 then { n with state := .silent, missRun := 30 } else n }

theorem wit_GoodTelegramMovesRing_silent : (midSilent.holder? .feeder 1).map (·.state) = some .silent ∧
    midSilent.heardNode? 1 = midSilent.holder? .feeder 1 ∧
    1 ∈ (midPeriod.modRing fun r => { r with settledFeeders := [1] }).ring.settledFeeders := by decide

/-- A map of two nodes, for a discovery of port A. -/
def discovering (d : Discovery) : State :=
  { ringIn .starting (some d) with map := { oneMap with nodes := [
      { identity := 1, kind := .feederUnit, role := some { kind := .feeder, index := 1 } }, { identity := 2, kind := .feederUnit, role := none }] } }

/-- Position 1 names unit 1. -/
def named : Parcel := { kind := 1, mode := 1, address := 1, tally := 1, data := [1, 0, 1] }

/-- The assignment of unit 1, served or not. -/
def assigned (tally : Nat) : Parcel := { kind := 2, mode := 2, address := 1, tally := tally, data := [1, 1] }

set_option maxRecDepth 100000 in
theorem wit_GoodTelegramMovesRing_discovery (d : Discovery) (p : Parcel) (h : p ∈ [named, assigned 1, assigned 0]) :
    (discovering d).takes .b (comesBack false 4 [p]) (arrives false 4 [p]) ∧ (discovering d).ring.state = .starting ∧
    (discovering d).ring.discovery = some d ∧ (discovering d).map.valid = true ∧
    ((discovering d).map.nodes.map (·.identity)).Nodup ∧ (discovering d).ring.closedSide = .a := by
  refine ⟨⟨rfl, ?_, show false = true ↔ PortId.a = PortId.b from by decide, rfl⟩, rfl, rfl, rfl, show [1, 2].Nodup from by decide, rfl⟩
  simp only [List.mem_cons, List.not_mem_nil, or_false] at h
  rcases h with rfl | rfl | rfl <;> decide +kernel

/-- Discovery at the end of step 1, and at its last assignment. -/
def surveying : Discovery := { shape := .closed, sideA := { groups := [1, 2, 3] } }
def assigning : Discovery := { shape := .closed, sideA := { removed := true, todo := [1] }, table := some someNodes }

theorem wit_GoodTelegramMovesRing_clauses : ({} : Discovery).shape = .undecided ∧ ({} : Discovery).table = none ∧
    ({ shape := .opened } : Discovery).shape ≠ .closed ∧
    (∀ n ∈ [0, 1, 2, 3], n ∈ (surveying.side .a).groups ∨ 4 < 16 * n + 1 ∨ ∃ p ∈ [named], p.mode = 1 ∧ p.address = 16 * n + 1) ∧
    readIdentify named = some { position := 1, identity := 1, kind := .feederUnit } ∧
    (assigning.side .a).removed = true ∧ (assigning.side .a).todo = [1] ∧ (assigned 0).tally ≠ 1 ∧
    (∀ e ∈ someNodes, e.identity = 1 → e.state = .present ∧ e.missRun < 19) ∧
    (∀ u ∈ (discovering assigning).sec.testUnits, u.queue = []) ∧
    ((discovering assigning).sec.sections.map (·.number)).Nodup := by decide

/-- An open discovery at its last assignment, on the side of port A, the only one that sends. -/
def assigningOpen : Discovery := { assigning with shape := .opened }

set_option maxRecDepth 100000 in
theorem wit_GoodTelegramMovesRing_open : (discovering assigningOpen).takes .a (comesBack true 4 [assigned 1]) (arrives true 4 [assigned 1]) ∧
    (discovering assigningOpen).ring.sides .opened = [.a] ∧ (assigningOpen.side .a).removed = true ∧
    (assigningOpen.side .a).todo = [1] ∧ (after (.telegramReturn .a (comesBack true 4 [assigned 1]) []) (discovering assigningOpen)).ring.state = .line := by
  refine ⟨⟨rfl, ?_, show true = true ↔ PortId.a = PortId.a from by decide, rfl⟩, rfl, rfl, rfl, ?_⟩ <;> decide +kernel

/-- Both feeders' slots and the beacon's are still out, and nodes 1 and 5 have missed 19 services. -/
def unservedPeriod : State :=
  reportsWait.modRing fun r =>
    { r with settledFeeders := [2], settledSwitches := [1], testSent := [5], darkRun := 19
             nodes := r.nodes.map fun n => if n.identity = 1 ∨ n.identity = 5 then { n with missRun := 19 } else n }

theorem wit_SilenceOnTheRing_period : unservedPeriod.missedNodes = [1, 4, 5] ∧ unservedPeriod.unserved .feeder = [1] ∧
    (unservedPeriod.heardNode? 1).map (fun n => (n.state, n.missRun)) = some (.present, 19) ∧
    unservedPeriod.ring.running = true ∧ unservedPeriod.ring.goodSeen = false ∧ unservedPeriod.ring.darkRun = 19 ∧
    unservedPeriod.ring.state = .ring ∧ (∀ u ∈ unservedPeriod.sec.testUnits, u.phase = .idle) ∧
    (after (.ringPeriod []) unservedPeriod).reg.beacons.map (·.reportsHeld) = [0] ∧
    State.reset.ring.running = false ∧ dead.ring.goodSeen = false := by decide +kernel

theorem wit_SilenceOnTheRing_quiet : ¬ ∃ n, dead.fallsSilent n := by
  rintro ⟨n, h, -, -, k⟩
  have hl : ∀ m ∈ dead.ring.nodes, ¬ 20 ≤ m.missRun + dead.missedNodes.count m.identity := by decide
  exact hl n (List.mem_of_find?_eq_some h) k

set_option maxRecDepth 100000 in
theorem wit_SilenceOnTheRing_last (ps : List Parcel) (h : ps ∈ [[], [feederParcel 2], [switchParcel], [beaconParcel]]) :
    dead.takes .b (comesBack false 4 ps) (arrives false 4 ps) ∧ dead.ring.state ≠ .starting ∧ dead.ring.roleSent = true ∧
    (dead.ring.port .b).unreturned = false ∧ fillPositions (arrives false 4 ps) .b dead = dead := by
  refine ⟨?_, by decide, rfl, rfl, rfl⟩
  simp only [List.mem_cons, List.not_mem_nil, or_false] at h
  unfold State.takes
  rcases h with rfl | rfl | rfl | rfl <;> decide +kernel

theorem wit_SilenceOnTheRing_slot : (∀ kind ∈ [RoleKind.feeder, .switch, .beacon], 1 ∈ dead.unserved kind ∧ (dead.holder? kind 1).isSome = true) ∧
    (feederParcel 2).tally ≤ dead.holders (arrives false 4 [feederParcel 2]) .b .feeder ∧
    (readFeederSlot (feederParcel 2).data).isSome = true ∧ (readSwitchSlot switchParcel.data).isSome = true ∧
    (readBeaconSlot beaconParcel.data).isSome = true := by decide

/-- A ring mended: unit 2 has only its position from A, and no parcel waits for the other port's telegram. -/
def mended : State :=
  midPeriod.modRing fun r => { r with roleLast := some 1, nodes := r.nodes.map fun n => if n.identity = 2 then { n with posB := none } else n }

set_option maxRecDepth 100000 in
theorem wit_GoodTelegramMovesRing_positions : mended.takes .b (comesBack false 5 []) (arrives false 5 []) ∧
    mended.takes .b (comesBack false 4 []) (arrives false 4 []) ∧ (mended.ring.port .b).unreturned = true ∧
    (mended.ring.nodes.filter (fun n => n.state != .missing)).length = 5 ∧
    (after (.telegramReturn .b (comesBack false 5 []) []) mended).ring.nodes.map (·.posB) = [some 5, some 4, some 3, some 2, some 1] := by
  refine ⟨?_, ?_, by decide, by decide, by decide +kernel⟩ <;> unfold State.takes <;> decide +kernel

/-- A served status read of the test unit. -/
def statusRead (lo hi : Byte) : Parcel := { kind := 1, mode := 2, address := 5, tally := 1, data := [0, 0, lo, hi] }

/-- The service parcel of the period went to the SILENT test unit. -/
def readingUnit : State :=
  midPeriod.modRing fun r =>
    { r with serviceEntry := some 4, nodes := r.nodes.map fun n => if n.identity = 5 then { n with state := .silent, missRun := 30 } else n }

set_option maxRecDepth 100000 in
theorem wit_GoodTelegramMovesRing_service (p : Parcel) (h : p ∈ [statusRead 7 0, statusRead 0xFF 0xFF]) :
    readingUnit.takes .b (comesBack false 4 [p]) (arrives false 4 [p]) ∧ readingUnit.inPeriod .b (arrives false 4 [p]) ∧
    (readingUnit.ring.nodes[4]?).map (fun n => (n.identity, n.kind, n.state)) = some (p.address, .testUnit, .silent) ∧
    readingUnit.heardNode? 5 = readingUnit.ring.nodes[4]? ∧ readingUnit.ring.serviceEntry = some 4 ∧ num16 0xFF 0xFF = 65535 := by
  simp only [List.mem_cons, List.not_mem_nil, or_false] at h
  unfold State.takes
  rcases h with rfl | rfl <;> refine ⟨?_, ⟨by decide, rfl, .inr rfl⟩, ?_⟩ <;> decide +kernel

set_option maxRecDepth 100000 in
/-- R132, R175: a test unit addressed in the period of an installation has its missed service counted. -/
theorem test_apply_counts_missed_unit :
    ((after (.ringPeriod []) (after (.applyMap 1 []) ((mapped dead).modRing fun r => { r with testSent := [5] }))).heardNode? 5).map
      (·.missRun) = some 1 := by decide +kernel

set_option maxRecDepth 100000 in
/-- R140, R179: the served read of the period's entry sets its status and makes it PRESENT. -/
theorem test_status_read : ((after (.telegramReturn .b (comesBack false 4 [statusRead 7 0]) []) readingUnit).ring.nodes[4]?).map
    (fun n => (n.unitStatus, n.state, n.missRun)) = some (some 7, .present, 0) := by decide +kernel

theorem wit_RaiseRule_full : fullSet.cond.overflow = none ∧
    (raise .emergency 0 fullSet).cond.overflow.map (fun o => (o.kind, o.count)) = some (.conditionOverflow, 1) ∧
    (raise .emergency 0 fullSet).cond.entries.length = 48 := by decide +kernel

/-- A vehicle seen long ago, and one in a section that the map of the tests does not have. -/
def twoVehicles : State :=
  { mapped dead with reg := { dead.reg with vehicles := [{ aVehicle 412 with lastSeen := { t := 5 , aged := true } }, { aVehicle 207 with sect := some 9 }] } }

set_option maxRecDepth 100000 in
theorem wit_ApplyMapRule_vehicles : twoVehicles.ready = true ∧ mapFault twoVehicles.store = none ∧
    (∀ x ∈ twoVehicles.sec.sections, x.state ∈ [.dead, .isolated, .lockedOut]) ∧ ([0] : List Byte) ≠ [] ∧
    (after (.applyMap 1 []) twoVehicles).reg.vehicles.map (fun v => (v.inSight, v.sect)) = [(false, none), (true, none)] := by
  decide +kernel

theorem wit_TripEntersTripped_more :
    ((part { aSection .opening with destination := some .dead }).section? 1).map (·.state) = some .opening ∧
    (tripped.section? 1).map (·.state) = some .tripped ∧
    (∃ q ∈ (rich.sec.trips.map fun r => { r with referenced := true }), q.sect = 1 ∧ q.referenced = true) ∧
    (∀ q ∈ tripped.sec.trips, ¬(q.sect = 1 ∧ q.referenced = true)) ∧
    8 ≤ (List.replicate 8 (rich.sec.trips.head?)).length ∧ (∀ q ∈ rich.sec.trips, q.read = false) := by decide

/-- A LIVE and a TRIPPED section with a full list of trip records; the third has been read, or none. -/
def fullTrips (read : Bool) (x : Section) : State :=
  let record (n : Nat) : List TripRecord := rich.sec.trips.map fun r => { r with feeder := n, referenced := false, read := read && n == 3 }
  { part x with sec := { (part x).sec with trips := (numbersFrom 1 8).flatMap record } }

theorem wit_TripEntersTripped_full : ∀ x ∈ [liveSection, aSection .tripped], (fullTrips true x).section? 1 = some x ∧
    8 ≤ (fullTrips true x).sec.trips.length ∧
    ((fullTrips true x).sec.trips.map (·.read)).take 3 = [false, false, true] ∧
    (∀ q ∈ (fullTrips false x).sec.trips, q.read = false) ∧ 8 ≤ (fullTrips false x).sec.trips.length ∧
    (∀ q ∈ (fullTrips true x).sec.trips, ¬(q.sect = 1 ∧ q.referenced = true)) := by decide

/-- A second sample at the clamp, after which the slot reports OPEN. -/
def clampSlot : List HandOver := [.sample 1 6000 600, .trip 1, .report 1 .opened 4]

/-- Feeder 1 stands at the clamp, its section as given; feeder 1 has an OPEN order where the section is OPENING. -/
def clamped (x : Section) : State :=
  { part x with
    prot := [{ aContext 1 with status := .armed, iPrev := some 6000, sat := 1 }, aContext 2]
    sec := { (part x).sec with feeders := [if x.state = .opening then (aFeeder 1).openOrder { t := 99990 } else aFeeder 1, aFeeder 2] } }

def openingSection : Section := { aSection .opening with destination := some .dead }

/-- A section with one feeder. -/
def single (st : SectionState) : Section := { aSection st with feeders := [1] }

theorem wit_FeederReportRule_trips : live.feeder? 1 = some (aFeeder 1) ∧ (aFeeder 1).latch = false ∧
    (∃ k, (aFeeder 1).ownRelease = some k ∧ k ≠ 5) ∧ (aFeeder 1).order ≠ .opens ∧ (live.context? 1).isSome = true ∧
    ((live.modFeeder 1 fun f => { f with breaker := .closed }).feeder? 1).map (·.breaker) = some .closed ∧
    (part openingSection).section? 1 = some openingSection ∧ (tripped.section? 1).map (·.state) = some .tripped ∧
    (part { single .live with origin := some .adoption }).section? 1 = some { single .live with origin := some .adoption } ∧
    (single .live).feeders = [1] ∧ 1 ∈ liveSection.feeders ∧ liveSection.feeders.length ≤ 2 ∧
    (∃ m ∈ liveSection.feeders, m ≠ 1 ∧ (live.feeder? m).isSome = true) ∧
    (clamped openingSection).feeder? 1 = some ((aFeeder 1).openOrder { t := 99990 }) ∧
    (∀ m ∈ openingSection.feeders, m ≠ 1 → ∃ g, (clamped openingSection).feeder? m = some g ∧ g.order ≠ .opens) :=
  ⟨rfl, rfl, ⟨4, rfl, by decide⟩, by decide, rfl, rfl, rfl, rfl, rfl, rfl, by decide, by decide, ⟨2, by decide, by decide, rfl⟩, rfl,
    fun m hm h => by
      simp only [openingSection, aSection, List.mem_cons, List.not_mem_nil, or_false] at hm
      rcases hm with rfl | rfl
      · exact absurd rfl h
      · exact ⟨_, rfl, by decide⟩⟩

theorem wit_FeederReportRule_adoption :
    let s := (part (aSection .unsettled)).modFeeder 2 fun f => { f with breaker := .closed }
    s.section? 1 = some (aSection .unsettled) ∧ s.feeder? 1 = some (aFeeder 1) ∧ (s.feeder? 2).map (·.breaker) = some .closed ∧
    s.sec.emergency = false ∧ ((part (aSection .unsettled)).feeder? 2).map (·.breaker) = some .opened ∧
    ((s.modFeeder 2 fun f => { f with breaker := .unknown }).feeder? 2).map (·.breaker) = some .unknown ∧
    (s.context? 1).map (·.latch) = some false := by decide

/-- A feeder of the CLOSING section has failed to open before. -/
def failed : State := raise .breakerFail 1 (closing.modFeeder 1 fun f => { f with breaker := .travelling, health := .failToOpen })

theorem wit_ConfirmationAndAdoptionTimeouts_health : (failed.feeder? 1).map (fun f => (f.health, f.breaker)) =
      some (.failToOpen, .travelling) ∧
    failed.cond.entries.map (fun e => (e.kind, e.subject, e.cause)) = [(.breakerFail, 1, some .holding)] ∧
    (part (aSection .unsettled)).sec.sections.map (·.state) = [.unsettled] := by decide

theorem wit_RecloseDelayRule_nodes : ((silence 5 waiting).testUnit? 1).map (fun u => (u.queue, (silence 5 waiting).nodePresent u.node)) =
      some ([], false) ∧
    (silence 1 waiting).nodesPresent { aSection .recloseWait with test := none } = false := by decide

theorem wit_TestEndRule_reports : (testing.testUnit? 1).map (fun u => (u.testNumber, u.phase, u.node)) = some (5, .ordered, 5) ∧
    (6 : Byte) ≠ 5 ∧ (testing.section? 1).map (fun x => (x.stop, testing.nodesPresent x, (silence 1 testing).nodesPresent x)) =
      some (false, true, false) ∧
    (readingsResult 50 15 750 200).kind = .pass ∧ (readingsResult 50 15 750 90).kind ≠ .pass ∧
    ((testing.modTestUnit 1 fun u => { u with queue := [1, 2] }).testUnit? 1).map (·.queue) = some (1 :: [2]) ∧
    1 ∉ [2] ∧ testing.nodePresent 5 = true ∧ TestReport.idle ≠ .injecting := by decide

/-- The time of the part is moved on. -/
def later (now : Time) (s : State) : State := { s with time := { now := now } }

theorem wit_SwitchAndSightTimeouts_times :
    1000 * (later 219000 (withSwitch queued)).map.tReq ≤ ((later 219000 (withSwitch queued)).time.now - (request 412 .straight).created.t).toNat ∧
    (later 159000 (withSwitch { queued with aspect := .stop })).switch? 1 = some { queued with aspect := .stop } ∧
    1000 * (later 159000 live).map.tHold ≤ ((later 159000 live).time.now - 99000).toNat ∧
    (later 699000 live).vehicle? 412 = some (aVehicle 412) ∧
    1000 * (later 699000 live).map.tSight ≤ ((later 699000 live).time.now - (aVehicle 412).lastSeen.t).toNat := by decide

/-- A switch point of a LIVE supply section that does not know its position. -/
def uncertain : SwitchPoint := { aSwitch with state := .uncertain, position := none, aspect := .stop, baseline := false }

theorem wit_SwitchAndSightTimeouts_contacts : (withSwitch uncertain).switch? 1 = some uncertain ∧ uncertain.baseline = false ∧
    (withSwitch uncertain).supplyLive uncertain = true ∧ dead.supplyLive uncertain = false ∧
    Contacts.straight.leg? = some .straight ∧ uncertain.target? = none ∧
    ({ uncertain with pin := some .turn } : SwitchPoint).target? = some .turn ∧ uncertain.zone = 0 ∧
    moving.throw.map (·.target) = some .turn ∧ Contacts.turn.leg? = some .turn ∧ aSwitch.discrepancy = 0 ∧
    Contacts.none.leg? = none ∧ aSwitch.position = some .straight ∧
    ({ aSwitch with discrepancy := 1 } : SwitchPoint).discrepancy ≠ 0 ∧ broken.state = .fault := by decide

/-! ## What commands do: the manual's own tables and worked cases -/

/-- The body of the last frame placed in the outbound queue. -/
def lastBody (s : State) : List Byte := ((s.link.outbound.getLast?).map (·.body)).getD []

/-- 3.8: the five lines of the table, R_t 50 and R_clear 15. -/
theorem test_line_test_figures :
    [(750, 200), (750, 90), (750, 740), (750, 750), (380, 300)].map
      (fun v => ((readingsResult 50 15 v.1 v.2).kind, (readingsResult 50 15 v.1 v.2).resistance)) =
    [(.pass, some 18), (.fail, some 6), (.pass, some 3700), (.pass, some 9999), (.noSupply, none)] := by decide

/-- Good samples one after another, as far as the first trip. -/
def samples (vehicles : Nat) : List Int → Context → Context × Option (TripCause × TripFigures)
  | [], c => (c, none)
  | i :: rest, c =>
    match c.good vehicles i 600 with
    | (d, none) => samples vehicles rest d
    | (d, some t) => (d, some t)

def armedAt (i : Int) : Context := { aContext 1 with status := .armed, iPrev := some i }

/-- 2.9, a fault in a section with three vehicles: the trip at s7, and no trip before it. -/
theorem test_rise_trip :
    (samples 3 [1200, 1230, 1420, 1700, 2010, 2300, 2560] (armedAt 1180)).2 = none ∧
    (samples 3 [1200, 1230, 1420, 1700, 2010, 2300, 2560, 2790] (armedAt 1180)).2 =
      some (.rise, { current := some 2790, peak := 2790, deltaI := 1560, k := 6, limit := 1440, vehicles := 3
                     samples := [1200, 1230, 1420, 1700, 2010, 2300, 2560, 2790] }) := by decide

/-- 2.9, the same fault with s4 and s5 missed: the trip comes at s9. -/
theorem test_rise_with_missed_samples :
    (samples 3 [2560, 2790, 3000] (samples 3 [1200, 1230, 1420, 1700] (armedAt 1180)).1.missed.missed).2 = none ∧
    ((samples 3 [2560, 2790, 3000, 3200] (samples 3 [1200, 1230, 1420, 1700] (armedAt 1180)).1.missed.missed).2.map
      (fun t => (t.1, t.2.deltaI, t.2.k, t.2.samples))) =
      some (.rise, 1970, 6, [1200, 1230, 1420, 1700, 2560, 2790, 3000, 3200]) := by decide

/-- 2.9, eight missed samples: BLIND with the rise dropped, and s12 resynchronises. -/
theorem test_blind_and_resynchronise :
    let c := iter Context.missed 8 (samples 3 [1200, 1230, 1420, 1700] (armedAt 1180)).1
    (c.status, c.rising, c.miss) = (.blind, false, 8) ∧
    (let d := (samples 3 [3400, 3450] c).1; (d.status, d.ov, d.iPrev, d.k, d.limit, d.peak)) =
      (.armed, 1, some 3450, 2, 1440, 1700) := by decide

/-- 5.10, a report with faults: the entries after the report, in their order. -/
theorem test_report_with_faults :
    let old (k : FaultKind) (sev : Severity) (src : FaultSource) (t : Time) : FaultEntry :=
      { kind := k, severity := sev, source := src, firstSeen := { t := t }, lastSeen := { t := t } }
    let s := (live.modVehicle 412 fun v => { v with
      number := 318
      faults := [old .auxSupply .minor .vehicle 1, old .traction .minor .vehicle 2, old .dewired .major .wayside 3,
        old .poleHead .minor .vehicle 4] })
    let t := takeReport 1 { number := 57, vehicle := 318, route := 21, pole := 1, faults := [(1, 2), (6, 1), (5, 2)] } s
    (t.vehicle? 318).map (fun v => v.faults.map (fun e => (e.kind, e.severity, e.source))) =
      some [(.auxSupply, .minor, .vehicle), (.dewired, .major, .wayside), (.poleHead, .major, .vehicle),
        (.insulation, .major, .vehicle)] ∧
    (t.switches.map fun w => w.queue.map (fun r => (r.vehicle, r.leg, r.origin))) = [[(318, .turn, .route)]] ∧
    (t.cond.entries.map fun e => (e.kind, e.subject, e.count)) = [(.vehicleFault, 318, 2)] := by decide

/-- 10.4: the reply of PING at part time 100 000 (000186A0h), and its frame on the line. -/
theorem test_ping :
    (after (.ping 0x2A []) dead).link.outbound = [{ notice := false, kind := 0x82, tag := 0x2A, body := [0, 0xA0, 0x86, 1, 0] }] ∧
    (after .frameSent (after (.ping 0x2A []) dead)).link.sent.take 10 = [0xC3, 5, 0, 0x82, 0x2A, 0, 0xA0, 0x86, 1, 0] := by
  decide +kernel

/-- 10.4: a section record of 49 bytes after the result code, its first bytes and its vehicle count. -/
theorem test_get_section :
    (lastBody (after (.getSection 1 [1]) live)).length = 50 ∧
    (lastBody (after (.getSection 1 [1]) live)).take 15 = [0, 1, 4, 2, 1, 2, 1, 1, 2, 60, 0, 10, 0, 0, 15] ∧
    (lastBody (after (.getSection 1 [1]) live)).getLast? = some 2 := by decide

theorem test_energise : (after (.energise 1 [1]) dead).sec.sections.map (·.state) = [.closing] ∧
    (after (.energise 1 [1]) dead).sec.feeders.map (·.order) = [.close, .close] := by decide
theorem test_energise_under_emergency :
    lastBody (after (.energise 1 [1]) (after .emergencyAsserted dead)) = 7 :: sectionRecord dead (aSection .dead) := by decide
theorem test_emergency_opens_live : (after .emergencyAsserted live).sec.sections.map (fun x => (x.state, x.destination)) =
    [(.opening, some .dead)] := by decide

/-- R49 and 3.9: a trip of a LIVE section with a free attempt waits for a reclose, the other feeder is intertripped. -/
theorem test_trip_intertrips :
    let t := takeTrip 1 .rise ((aContext 1).ownFigures 2) live
    (t.section? 1).map (fun x => (x.state, x.destination, x.window)) = some (.tripped, some .recloseWait, .opened) ∧
    t.sec.trips.map (fun r => (r.intertripped, r.present, r.presentCount)) = [(some 2, [207, 412], 2)] ∧
    t.sec.feeders.map (fun f => (f.order, f.latch)) = [(.opens, true), (.opens, false)] := by decide

/-- R77, R84: a station request to the other leg starts a throw and joins the queue. -/
theorem test_add_request_throws :
    (after (.addRequest 1 [1, 0x9C, 1, 2]) live).switches.map
      (fun w => (w.state, w.throw.map (·.target), w.aspect, w.queue.map (·.vehicle))) = [(.moving, some .turn, .stop, [412])] := by
  decide
theorem test_throw_timeout : (after (.throwTimeout 1) (withSwitch moving)).switches.map (fun w => (w.state, w.fault)) =
    [(.fault, some .throwTimeout)] := by decide
theorem test_throw_not_yet : (after (.throwTimeout 1) (withSwitch { moving with throw := some { target := .turn, start := 98001, seen := true } })).switches.map
    (·.state) = [.moving] := by decide

/-- R91, R92: an entry and an exit counted by a switch unit empty the zone again and serve the head. -/
theorem test_passage :
    let t := switchSlot 1 { contacts := .straight, entries := 1, exits := 1, dewirements := 0 } (withSwitch queued)
    t.switches.map (fun w => (w.zone, w.queue.map (·.vehicle), w.state)) = [(0, [207], .moving)] := by decide

/-- 7.7: a clear of an entry whose cause holds puts it back; a full set turns a raise into the overflow entry. -/
theorem test_clear_holding :
    (after (.clearCondition 1 [19, 0, 0]) { State.reset with time := { now := 5 } }).cond.entries =
      [{ kind := .mapInvalid, subject := 0, first := { t := 5 }, last := { t := 5 }, count := 1, cause := some .holding }] := by decide
theorem test_overflow : (raise .contactSequence 9 fullSet).cond.overflow.map (fun e => (e.kind, e.count, e.cause)) =
    some (.conditionOverflow, 1, some .holding) ∧ (raise .contactSequence 9 fullSet).cond.entries.length = 48 := by decide +kernel

/-- R139: the 20th dark period takes the ring down. -/
theorem test_dark_run : (after .darkRunLimit (dark .ring)).ring.state = .down ∧
    (after .darkRunLimit (dark .starting)).ring.state = .starting := by decide

/-- 10.5: in DOWN a telegram holds its header, one ALL-addressed FETCH without data and the end check: 17 bytes. -/
theorem test_down_telegram :
    ((after (.ringPeriod []) (dark .down)).ring.a.telegram).take 13 = [0, 10, 0, 0, 17, 0, 1, 4, 0, 0, 0, 0, 0] ∧
    ((after (.ringPeriod []) (dark .down)).ring.a.telegram).length = 17 := by decide +kernel

set_option maxRecDepth 100000 in
/-- R173, R175: the small map is installed; its section is ISOLATED, its feeder's settings are those of the map. -/
theorem test_apply_map :
    let t := after (.applyMap 1 []) (mapped dead)
    t.sec.sections.map (fun x => (x.number, x.state, x.feeders, x.test)) = [(1, .isolated, [1], some { unit := 1, channel := 1 })] ∧
    t.prot.map (·.settings) = [settings] ∧ t.map.tSight = 600 ∧
    lastBody t = [0, 9, 0, 1, 1, 1, 1, 1, 1, 0] := by decide +kernel
theorem test_apply_unwritten : lastBody (after (.applyMap 1 []) dead) = [9, 1, 0] := by decide

/-- R28: a section still UNSETTLED at the deadline is locked out. -/
theorem test_adoption_deadline :
    let s := part (aSection .unsettled)
    (after .adoptionDeadline { s with sec := { s.sec with adoption := .running 99000 } }).sec.sections.map
      (fun x => (x.state, x.lockReason)) = [(.lockedOut, some .nodeAbsent)] := by decide
theorem test_close_confirm : (after (.closeConfirmTimeout 1) closing).sec.feeders.map (fun f => (f.order, f.health)) =
    [(.opens, .failToClose), (.opens, .failToClose)] := by decide

/-- R9, R144: a close confirmation that ends FAIL_TO_OPEN ends BREAKER_FAIL with it. -/
theorem test_fail_to_close_ends_breaker_fail :
    let t := after (.closeConfirmTimeout 1) failed
    t.sec.feeders.map (·.health) = [.failToClose, .failToClose] ∧
    t.cond.entries.map (fun e => (e.kind, e.subject, e.cause)) = [(.breakerFail, 1, some .ended)] := by decide

/-- R103: an item of a kind that stood earlier in the list is skipped, even when that one was skipped for its severity. -/
theorem test_repeated_fault_kind : reportedFaults [] [(4, 3), (4, 2), (7, 1), (1, 1), (1, 2)] =
    [{ kind := .insulation, severity := .minor }] := by decide

/-- R13, R16, R17: a trip the Section Controller finds in a slot while the section opens gives the other feeder OPEN again, and the
section stays in OPENING until that feeder's next OPEN slot. -/
theorem test_trip_in_opening :
    let s := (part { aSection .opening with destination := some .dead }).modFeeder 2 (·.openOrder { t := 99990 })
    let t := takeTrip 2 .ownRelease ((aContext 2).ownFigures 2) s
    t.sec.feeders.map (fun f => (f.order, f.latch)) = [(.opens, false), (.opens, true)] ∧
    (feederReport 2 .opened 4 t).sec.sections.map (·.state) = [.opening] ∧
    (feederReport 1 .opened 4 (feederReport 2 .opened 4 t)).sec.sections.map (·.state) = [.dead] := by decide

/-- R16: the slot whose sample tripped leaves the OPEN order to a later slot. -/
theorem test_protection_trip_keeps_order :
    let t := handAll [] clampSlot (clamped liveSection)
    t.sec.feeders.map (fun f => (f.order, f.breaker)) = [(.opens, .opened), (.opens, .opened)] ∧
    t.sec.sections.map (·.state) = [.tripped] ∧ t.sec.trips.map (·.cause) = [.saturation] ∧
    (feederReport 1 .opened 4 t).sec.feeders.map (·.order) = [.idle, .opens] := by decide

/-- R45: the trip is recorded against OPENING, and the slot then takes the section to its destination, whichever block is first. -/
theorem test_protection_trip_in_opening :
    let t := handAll [] clampSlot (clamped openingSection)
    let u := handAll [2] clampSlot (clamped openingSection)
    t.sec.sections.map (·.state) = [.dead] ∧ t.sec.trips.length = 1 ∧
    t.sec.feeders.map (·.order) = [.idle, .opens] ∧
    u.sec.sections.map (·.state) = [.dead] ∧ u.sec.trips = [] := by decide

/-- R52: a record made in TRIPPED names no intertripped feeder. -/
theorem test_second_record_not_intertripped :
    let t := takeTrip 1 .rise ((aContext 1).ownFigures 2) tripped
    t.sec.trips.map (·.intertripped) = [none] ∧ t.sec.feeders.map (·.order) = [.opens, .opens] ∧
    (takeTrip 1 .rise ((aContext 1).ownFigures 2) live).sec.trips.map (·.intertripped) = [some 2] := by decide

set_option maxRecDepth 100000 in
/-- R166: the map an operation cut by a reset leaves fails validation, though every byte of it may be right. -/
theorem test_cut_map_fails : checkedFault (mapped dead).store = none ∧
    (mapFault { (mapped dead).store with cutShort := some 3 }).isSome = true ∧
    (mapFault (after .mapEraseFinished { storing StoreOp.erase 1500 with store := { (storing StoreOp.erase 1500).store with cutShort := some 3 } }).store) =
      some 0 := by decide +kernel

/-- R140: the answer of a service parcel is that of the entry it went to, though an earlier one has its identity. -/
theorem test_service_of_the_chosen_entry :
    let twice := [{ aNode 7 .feederUnit none with state := .foreign }, { aNode 7 .feederUnit none with state := .foreign, posA := some 2 }]
    let s := dead.modRing fun r => { r with nodes := twice, serviceEntry := some 1 }
    (readService 7 [0, 0, 0x34, 0x12] s).ring.nodes.map (·.unitStatus) = [none, some 0x1234] := by decide

/-- 8.10: the erase ends and its reply 5 is made; PING, which waited behind it, starts before any part time passes. -/
def pingBehindErase : State :=
  { storing StoreOp.erase 1500 with
    link := { (storing StoreOp.erase 1500).link with inbound := [{ kind := 0x02, tag := 6, body := [] }] } }

theorem test_next_request_starts :
    step (after .mapEraseFinished pingBehindErase) =
      .next { after .mapEraseFinished pingBehindErase with pending := [.requestStart] } := rfl
theorem test_ping_behind_erase :
    (after .requestStart (after .mapEraseFinished pingBehindErase)).link.outbound =
      [{ notice := false, kind := 0xC1, tag := 5, body := [0] },
       { notice := false, kind := 0x82, tag := 6, body := [0, 0xA0, 0x86, 1, 0] }] := by decide +kernel

/-- The host's questions: no word spells a command, and a step takes the front command. -/
theorem test_no_words : decodeTableWord 8 0x02 = none ∧ step (front (.ping 1 []) dead) = exec (.ping 1 []) dead := ⟨rfl, rfl⟩

end Sys2Proof.Tests
end

/-!
The reads of a section and of a feeder (R24, R48, R72), and the section orders that take no power (R22, R23).
-/

namespace Sys2Proof.Machine

/-! ## Handlers that change nothing -/

theorem State.ready_serving {s : State} (hr : s.ready = true) : s.link.serving = none ∧ s.link.replySlotFree = true := by
  simp only [State.ready, Link.canServe, Bool.and_eq_true, Option.isNone_iff_eq_none] at hr
  exact ⟨hr.1.1, hr.2⟩

/-- A request whose owner leaves the state alone: its reply enters a slot, and that is all. -/
theorem serve_unchanged {s : State} (hr : s.ready = true) (kind tag : Byte) {h : Handler} {body : List Byte}
    (he : h s = (s, some body)) : serve kind tag h s = s.replied kind tag body :=
  serve_some hr kind tag he (State.ready_serving hr).1 (State.ready_serving hr).2

theorem within_iff {lo hi n : Nat} : within lo hi n = true ↔ lo ≤ n ∧ n ≤ hi := by simp [within]

/-! ## A section named by its number (R19) -/

theorem onSection_found {s : State} {b : Byte} {x : Section} (h : Section → Handler) (h1 : 1 ≤ b.toNat) (h16 : b.toNat ≤ 16)
    (hx : s.section? b.toNat = some x) : onSection h [b] s = h x s := by
  simp only [onSection, onSectionNumber, within_iff.2 ⟨h1, h16⟩, if_true, hx]

theorem onSection_unknown {s : State} {b : Byte} (h : Section → Handler) (h1 : 1 ≤ b.toNat) (h16 : b.toNat ≤ 16)
    (hx : s.section? b.toNat = none) : onSection h [b] s = (s, some [0x04]) := by
  simp only [onSection, onSectionNumber, within_iff.2 ⟨h1, h16⟩, if_true, hx]
  rfl

theorem onSection_outOfRange {b : Byte} (h : Section → Handler) (hb : b.toNat = 0 ∨ 16 < b.toNat) (s : State) :
    onSection h [b] s = (s, some [0x03]) := by
  have hw : ¬ within 1 16 b.toNat = true := by rw [within_iff]; omega
  simp only [onSection, onSectionNumber, if_neg hw]
  rfl

theorem onSection_badLength {args : List Byte} (h : Section → Handler) (ha : args.length ≠ 1) (s : State) :
    onSection h args s = (s, some [0x02]) := by
  unfold onSection
  split
  · simp at ha
  · rfl

theorem State.sectionBytes_of_found {s : State} {n : Nat} {x : Section} (hx : s.section? n = some x) :
    s.sectionBytes n = sectionRecord s x := by
  simp only [State.sectionBytes, hx]

/-! ## A feeder named by its number (R24) -/

theorem State.feederBytes_of_found {s : State} {n : Nat} {f : Feeder} {c : Context} (hf : s.feeder? n = some f)
    (hc : s.context? n = some c) : s.feederBytes n = feederRecord f c := by
  simp only [State.feederBytes, hf, hc]

theorem getFeeder_found {s : State} {b : Byte} {f : Feeder} (h1 : 1 ≤ b.toNat) (h24 : b.toNat ≤ 24)
    (hf : s.feeder? b.toNat = some f) : getFeeder [b] s = (s, some (0x00 :: s.feederBytes b.toNat)) := by
  simp only [getFeeder, within_iff.2 ⟨h1, h24⟩, if_true, hf, Option.isSome_some]
  rfl

theorem getFeeder_unknown {s : State} {b : Byte} (h1 : 1 ≤ b.toNat) (h24 : b.toNat ≤ 24) (hf : s.feeder? b.toNat = none) :
    getFeeder [b] s = (s, some [0x04]) := by
  simp only [getFeeder, within_iff.2 ⟨h1, h24⟩, if_true, hf, Option.isSome_none, Bool.false_eq_true, if_false]
  rfl

theorem getFeeder_outOfRange {b : Byte} (hb : b.toNat = 0 ∨ 24 < b.toNat) (s : State) :
    getFeeder [b] s = (s, some [0x03]) := by
  have hw : ¬ within 1 24 b.toNat = true := by rw [within_iff]; omega
  simp only [getFeeder, if_neg hw]
  rfl

theorem getFeeder_badLength {args : List Byte} (ha : args.length ≠ 1) (s : State) :
    getFeeder args s = (s, some [0x02]) := by
  unfold getFeeder
  split
  · simp at ha
  · rfl

/-! ## Widths of the parts of a record (10, R177) -/

@[simp] theorem u8_toNat (b : Byte) : u8 b.toNat = b := by simp [u8]

@[simp] theorem le16_length (n : Nat) : (le16 n).length = 2 := by simp [le16]
@[simp] theorem leSigned_length (i : Int) : (leSigned i).length = 2 := by simp [leSigned]
@[simp] theorem value16_length (n : Option Nat) : (value16 n).length = 2 := by simp [value16]
@[simp] theorem current16_length (i : Option Int) : (current16 i).length = 2 := by cases i <;> rfl
@[simp] theorem optTime_length (t : Option Time) : (optTime t).length = 5 := by cases t <;> rfl
@[simp] theorem optStamp_length (t : Option Stamp) : (optStamp t).length = 5 := optTime_length _
@[simp] theorem settingsBytes_length (p : RecloseSettings) : (settingsBytes p).length = 8 := by simp [settingsBytes]
@[simp] theorem protectionBytes_length (p : ProtectionSettings) : (protectionBytes p).length = 16 := by simp [protectionBytes]
@[simp] theorem resultBytes_length (r : Option TestResult) : (resultBytes r).length = 7 := by cases r <;> rfl
@[simp] theorem testView_length (s : State) (x : Section) : (testView s x).length = 3 := by unfold testView; split <;> rfl

@[simp] theorem padded_length {α : Type} (n : Nat) (l : List α) : (padded n l).length = n := by
  simp [padded]; omega

@[simp] theorem samplesBytes_length (l : List Int) : (samplesBytes l).length = 32 := by
  have h : ∀ p : List (Option Int), (p.flatMap current16).length = 2 * p.length := by
    intro p
    induction p with
    | nil => rfl
    | cons a p ih => simp only [List.flatMap_cons, List.length_append, ih, current16_length, List.length_cons]; omega
  rw [samplesBytes, h, padded_length]
  rfl

/-! ## The test view (R72) -/

theorem testView_testing {s : State} {x : Section} {c : TestChannel} {u : TestUnit} (hs : x.state = .testing)
    (hc : x.test = some c) (hu : s.testUnit? c.unit = some u) :
    testView s x =
      [place ((indexWhere (fun n => n == x.number) u.queue).map (· + 1)), u8 u.phase.code, u.testNumber] := by
  simp only [testView, hs, hc, Option.bind_some, hu]

theorem testView_of_not_testing {s : State} {x : Section} (hs : x.state ≠ .testing) : testView s x = [0, 0xFF, 0xFF] := by
  unfold testView
  split
  · contradiction
  · rfl

/-! ## Where the fields of the two records stand (10.4) -/

theorem sectionRecord_layout (s : State) (x : Section) :
    let body := sectionRecord s x
    body.length = 49 ∧
      body.take 3 = [u8 x.number, u8 x.state.code, u8 x.feeders.length] ∧
      (body.drop 3).take 4 = [place x.feeders[0]?, place x.feeders[1]?, place (x.test.map (·.unit)),
        place (x.test.map (·.channel))] ∧
      (body.drop 7).take 8 = settingsBytes x.settings ∧
      (body.drop 15).take 3 = [u8 (destinationCode x.destination), u8 (reasonCode x.shownReason), u8 (originCode x.origin)] ∧
      (body.drop 18).take 5 = optStamp x.liveSince ∧
      (body.drop 23).take 7 = u8 x.window.code :: (optStamp x.windowStart ++ [u8 x.attempts]) ∧
      (body.drop 30).take 5 = optTime x.delayExpiry ∧
      (body.drop 35).take 3 = testView s x ∧
      (body.drop 38).take 1 = [u8 x.testsUsed] ∧
      (body.drop 39).take 7 = resultBytes x.lastTest ∧
      body.drop 46 = [yes x.cancel, yes x.stop, u8 (s.vehicleCount x.number)] := by
  simp [sectionRecord, List.take_append, List.drop_append, List.take_of_length_le, List.drop_of_length_le]

theorem feederRecord_layout (f : Feeder) (c : Context) :
    let body := feederRecord f c
    body.length = 79 ∧
      body.take 7 = u8 f.number :: u8 f.sect :: (le16 f.node ++ u8 f.breaker.code :: value16 (f.ownRelease.map (·.toNat))) ∧
      (body.drop 7).take 8 = u8 f.order.code :: (optStamp f.orderStart ++ [u8 f.health.code, yes f.latch]) ∧
      (body.drop 15).take 16 = protectionBytes c.settings ∧
      (body.drop 31).take 2 = [u8 c.status.code, yes c.rising] ∧
      (body.drop 33).take 10 = current16 c.iPrev ++ value16 c.vLast ++
        u8 c.k :: (le16 c.limit ++ u8 c.nRise :: leSigned c.peak) ∧
      (body.drop 43).take 4 = le16 c.ov ++ [u8 c.sat, u8 c.miss] ∧
      body.drop 47 = samplesBytes c.buffer := by
  simp [feederRecord, List.take_append, List.drop_append, List.take_of_length_le, List.drop_of_length_le]

/-! ## The two reads -/

theorem exec_getSection (tag : Byte) (args : List Byte) (s : State) :
    exec (.getSection tag args) s = .next (serve 0x10 tag (getSection args) s) := rfl

theorem exec_getFeeder (tag : Byte) (args : List Byte) (s : State) :
    exec (.getFeeder tag args) s = .next (serve 0x12 tag (getFeeder args) s) := rfl

theorem exec_getSection_unchanged {s : State} (hr : s.ready = true) {tag : Byte} {args body : List Byte}
    (h : getSection args s = (s, some body)) : exec (.getSection tag args) s = .next (s.replied 0x10 tag body) := by
  rw [exec_getSection, serve_unchanged hr _ _ h]

theorem exec_getFeeder_unchanged {s : State} (hr : s.ready = true) {tag : Byte} {args body : List Byte}
    (h : getFeeder args s = (s, some body)) : exec (.getFeeder tag args) s = .next (s.replied 0x12 tag body) := by
  rw [exec_getFeeder, serve_unchanged hr _ _ h]

/-- R72: a section that has a record is answered with that record. -/
theorem exec_getSection_found {s : State} (hr : s.ready = true) {tag b : Byte} {x : Section} (h1 : 1 ≤ b.toNat)
    (h16 : b.toNat ≤ 16) (hx : s.section? b.toNat = some x) :
    exec (.getSection tag [b]) s = .next (s.replied 0x10 tag (0x00 :: sectionRecord s x)) := by
  apply exec_getSection_unchanged hr
  rw [getSection, onSection_found _ h1 h16 hx, State.section?_number hx, showing, State.sectionBytes_of_found hx]
  rfl

/-- R24, R48: a feeder that has a record and a context is answered with both. -/
theorem exec_getFeeder_found {s : State} (hr : s.ready = true) {tag b : Byte} {f : Feeder} {c : Context} (h1 : 1 ≤ b.toNat)
    (h24 : b.toNat ≤ 24) (hf : s.feeder? b.toNat = some f) (hc : s.context? b.toNat = some c) :
    exec (.getFeeder tag [b]) s = .next (s.replied 0x12 tag (0x00 :: feederRecord f c)) := by
  apply exec_getFeeder_unchanged hr
  rw [getFeeder_found h1 h24 hf, State.feederBytes_of_found hf hc]

/-- Settles O28: the bodies are the records themselves, whose layouts say where each field stands; every refusal is that of the
subject's check. -/
theorem sectionAndFeederReads : Obligations.SectionAndFeederReads := by
  intro tag b s hr
  refine ⟨?sectionFound, ?feederFound, ?sectionRange, ?feederRange, ?sectionUnknown, ?feederUnknown, ?badLength⟩
  case sectionFound =>
    intro x h1 h16 hx
    have hn : x.number = b.toNat := State.section?_number hx
    obtain ⟨hlen, hhead, hparts, hset, hdest, hlive, hwin, hdelay, htest, hused, hlast, hflags⟩ := sectionRecord_layout s x
    rw [hn, u8_toNat] at hhead
    rw [hn] at hflags
    refine ⟨sectionRecord s x, exec_getSection_found hr h1 h16 hx, hlen, hhead, hparts, hset, hdest, hlive, hwin, hdelay, hused,
      ?_, ?_, hlast, hflags⟩
    · intro c u hs hc hu
      rw [htest, testView_testing hs hc hu, hn]
    · intro hs
      rw [htest, testView_of_not_testing hs]
  case feederFound =>
    intro f c h1 h24 hf hc
    have hlayout := feederRecord_layout f c
    rw [State.feeder?_number hf, u8_toNat] at hlayout
    exact ⟨feederRecord f c, exec_getFeeder_found hr h1 h24 hf hc, hlayout⟩
  case sectionRange => exact fun hb => exec_getSection_unchanged hr (onSection_outOfRange _ hb s)
  case feederRange => exact fun hb => exec_getFeeder_unchanged hr (getFeeder_outOfRange hb s)
  case sectionUnknown => exact fun h1 h16 hx => exec_getSection_unchanged hr (onSection_unknown _ h1 h16 hx)
  case feederUnknown => exact fun h1 h24 hf => exec_getFeeder_unchanged hr (getFeeder_unknown h1 h24 hf)
  case badLength =>
    exact fun args ha => ⟨exec_getSection_unchanged hr (onSection_badLength _ ha s),
      exec_getFeeder_unchanged hr (getFeeder_badLength ha s)⟩

/-! ## Section orders that take no power -/

/-- The conditions agree but for the causes of their entries, and the link is as it was. -/
def State.sameButCauses (s t : State) : Prop := t.link = s.link ∧ s.cond.sameButCauses t.cond

theorem ConditionUnit.sameButCauses.refl (u : ConditionUnit) : u.sameButCauses u := ⟨rfl, rfl, rfl, rfl, rfl⟩

theorem ConditionUnit.sameButCauses.trans {u v w : ConditionUnit} (h : u.sameButCauses v) (k : v.sameButCauses w) :
    u.sameButCauses w := by
  obtain ⟨he, ho, hn, ha, hs⟩ := h
  obtain ⟨ke, ko, kn, ka, ks⟩ := k
  exact ⟨ke.trans he, ko.trans ho, kn.trans hn, ka.trans ha, ks.trans hs⟩

theorem State.sameButCauses.refl (s : State) : s.sameButCauses s := ⟨rfl, .refl s.cond⟩

theorem State.sameButCauses.trans {s t u : State} (h : s.sameButCauses t) (k : t.sameButCauses u) : s.sameButCauses u :=
  ⟨k.1.trans h.1, h.2.trans k.2⟩

theorem endCause_sameButCauses (k : CondKind) (n : Nat) (s : State) : s.sameButCauses (endCause k n s) :=
  (endCause_frame k n s).2

/-- After the end of a cause every entry of that kind and subject shows it (R145). -/
theorem endCause_ended {k : CondKind} {n : Nat} {s : State} {e : CondEntry} (he : e ∈ (endCause k n s).cond.entries)
    (hk : e.kind = k) (hn : e.subject = n) : e.cause = some .ended := by
  simp only [endCause, State.modCond_cond, modWhere, List.mem_map] at he
  obtain ⟨a, _, rfl⟩ := he
  split at hk <;> split at hn <;> simp_all [CondEntry.isOf]

/-! ## What the blocks do that are told of an entry into ISOLATED or DEAD -/

/-- A context that follows its section into a state without protection is IDLE (R32). -/
theorem Context.follow_idle {dst : SectionState} (hd : dst = .isolated ∨ dst = .dead) (c : Context) :
    (c.follow dst).status = .idle := by
  have hp : ¬ ((dst = .closing ∨ dst = .live ∨ dst = .opening) ∧ c.latch = false) := by
    rcases hd with rfl | rfl <;> simp
  unfold Context.follow
  rw [if_neg hp]
  split
  · assumption
  · rfl

theorem tellProtection_idle {dst : SectionState} (hd : dst = .isolated ∨ dst = .dead) (x : Section) (s : State) :
    s.sameButCauses (tellProtection x dst s) := by
  refine forEach_rel (R := State.sameButCauses) .refl .trans x.feeders (fun f t => ?_) s
  unfold changeContext
  split
  · exact .refl t
  · rename_i c _
    have hb : ∀ u : State, u.sameButCauses (blindCause f c.status (c.follow dst).status u) := by
      intro u
      rw [Context.follow_idle hd, blindCause]
      split
      · exact endCause_sameButCauses ..
      · rw [if_neg (by simp)]
        exact .refl u
    exact hb (t.modContext f (·.follow dst))

theorem tellSwitches_dead {x : Section} {dst : SectionState} (hx : x.state ≠ .live) (hd : dst ≠ .live) (s : State) :
    tellSwitches x dst s = s := by
  simp only [tellSwitches, hx, hd, and_false, false_and, if_false]

theorem tellLockout_sameButCauses {dst : SectionState} (hd : dst ≠ .lockedOut) (x : Section) (s : State) :
    s.sameButCauses (tellLockout x dst s) := by
  unfold tellLockout
  rw [if_neg hd]
  split
  · exact endCause_sameButCauses ..
  · exact .refl s

/-- R3: the cause of LOCKOUT ends on leaving LOCKED_OUT. -/
theorem tellLockout_leaving {x : Section} {dst : SectionState} (hd : dst ≠ .lockedOut) (hx : x.state = .lockedOut) (s : State) :
    tellLockout x dst s = endCause .lockout x.number s := by
  simp only [tellLockout, hd, hx, if_false, if_true]

theorem setOutcome_cancelled (n : Nat) (s : State) :
    (setOutcome n .cancelled s).sec.trips = s.sec.trips.map (·.cancelledFor n) := by
  simp only [setOutcome, State.modTrips_sec, modWhere]
  apply List.map_congr_left
  intro r _
  simp [TripRecord.cancelledFor]

/-- R55: an entry into ISOLATED from any state but TRIPPED leaves the trip records alone. -/
theorem tellTrips_isolated {x y : Section} (hx : x.state ≠ .tripped) (hy : y.state = .isolated) (s : State) :
    tellTrips x y s = s := by
  simp only [tellTrips, if_neg hx, hy, entryOutcome]

/-- R55: an entry into DEAD from any state but TRIPPED cancels the section's running records. -/
theorem tellTrips_dead {x y : Section} (hx : x.state ≠ .tripped) (hy : y.state = .dead) (s : State) :
    tellTrips x y s = setOutcome x.number .cancelled s := by
  simp only [tellTrips, if_neg hx, hy, entryOutcome]

/-! ## The entry into ISOLATED or DEAD of a section without power -/

/-- A section that its orders take out of service or put back: its feeders are dead before and after. -/
def Section.resting (x : Section) : Prop := x.state = .isolated ∨ x.state = .dead ∨ x.state = .lockedOut

theorem Section.resting.ne_tripped {x : Section} (hr : x.resting) : x.state ≠ .tripped := by
  rcases hr with h | h | h <;> simp [h]

theorem Section.resting.ne_live {x : Section} (hr : x.resting) : x.state ≠ .live := by
  rcases hr with h | h | h <;> simp [h]

/-- What an entry of a resting section into ISOLATED or DEAD does, the trip records and feeders apart: the record of that section
alone is new, causes may have ended, and the cause of LOCKOUT has when the section left LOCKED_OUT. -/
structure State.RestingEntry (s t : State) (x y : Section) : Prop where
  frame : s.sameButSections t
  found : t.section? x.number = some y
  others : s.otherSections t x.number
  switches : t.switches = s.switches
  causes : s.sameButCauses t
  lockout : x.state = .lockedOut → ∀ e ∈ t.cond.entries, e.kind = .lockout → e.subject = x.number → e.cause = some .ended

/-- The optional fields and the flags of a section that enters ISOLATED or DEAD are absent and clear (R3). -/
theorem Section.enter_eq_plain {dst : SectionState} (hd : dst = .isolated ∨ dst = .dead) (now : Stamp) (x : Section) :
    x.enter now dst = x.plain dst := by
  rcases hd with rfl | rfl <;> rfl

/-- The blocks told of the entry leave the switch points alone; the trip records follow last. -/
theorem changeState_resting {dst : SectionState} {prep : Section → Section} {s : State} {x : Section}
    (hx : s.section? x.number = some x) (hr : x.resting) (hd : dst = .isolated ∨ dst = .dead) :
    ∃ t, changeState x.number dst prep s = tellTrips x ((prep x).enter s.stamp dst) (tellLockout x dst t) ∧
      s.sameButCauses t ∧ t.switches = s.switches ∧ t.sec.trips = s.sec.trips := by
  have hdl : dst ≠ .live := by rcases hd with rfl | rfl <;> simp
  obtain ⟨_, hsec, hsw, _, _⟩ := tellProtection_frame x dst (s.modSection x.number fun y => (prep y).enter s.stamp dst)
  refine ⟨tellProtection x dst (s.modSection x.number fun y => (prep y).enter s.stamp dst), ?_, ?_, hsw, ?_⟩
  · simp only [changeState, hx, closeExpired, if_neg hdl, tellSwitches_dead hr.ne_live hdl]
  · exact tellProtection_idle hd x (s.modSection x.number fun y => (prep y).enter s.stamp dst)
  · rw [hsec]; rfl

theorem changeState_restingEntry {dst : SectionState} {prep : Section → Section} (hp : ∀ y, (prep y).number = y.number)
    {s : State} {x : Section} (hx : s.section? x.number = some x) (hr : x.resting) (hd : dst = .isolated ∨ dst = .dead) :
    s.RestingEntry (changeState x.number dst prep s) x ((prep x).plain dst) := by
  have hdl : dst ≠ .live := by rcases hd with rfl | rfl <;> simp
  have hdk : dst ≠ .lockedOut := by rcases hd with rfl | rfl <;> simp
  have hsec := changeState_section? (dst := dst) hp hx
  obtain ⟨t, he, hc, hsw, _⟩ := changeState_resting (prep := prep) hx hr hd
  have hlock := tellLockout_sameButCauses hdk x t
  refine ⟨changeState_frame .., ?_, ?_, ?_, ?_, ?_⟩
  · simp only [hsec, hx, Option.map_some, if_true, hdl, false_and, if_false, Section.enter_eq_plain hd]
  · intro m hm
    simp [hsec, hm]
  · rw [he, tellTrips_frame]
    exact (tellLockout_frame x dst t).2.trans hsw
  · rw [he, tellTrips_frame]
    exact hc.trans hlock
  · intro hxl e hmem hk hn
    rw [he, tellTrips_frame, tellLockout_leaving hdk hxl] at hmem
    exact endCause_ended hmem hk hn

theorem changeState_isolated_trips {prep : Section → Section} {s : State} {x : Section} (hx : s.section? x.number = some x)
    (hr : x.resting) : (changeState x.number .isolated prep s).sec.trips = s.sec.trips := by
  obtain ⟨t, he, _, _, ht⟩ := changeState_resting (prep := prep) hx hr (.inl rfl)
  rw [he, tellTrips_isolated hr.ne_tripped rfl, (tellLockout_frame x .isolated t).1.2.1, ht]

theorem changeState_dead_trips {prep : Section → Section} {s : State} {x : Section} (hx : s.section? x.number = some x)
    (hr : x.resting) :
    (changeState x.number .dead prep s).sec.trips = s.sec.trips.map (·.cancelledFor x.number) := by
  obtain ⟨t, he, _, _, ht⟩ := changeState_resting (prep := prep) hx hr (.inr rfl)
  rw [he, tellTrips_dead hr.ne_tripped rfl, setOutcome_cancelled, (tellLockout_frame x .dead t).1.2.1, ht]

/-! ## The OPEN orders that ISOLATE ends (R22) -/

/-- Only the feeder table changes. -/
theorem forEach_modFeeder_eq (l : List Nat) (g : Feeder → Feeder) (s : State) :
    ∃ fs, forEach l (fun f t => t.modFeeder f g) s = { s with sec := { s.sec with feeders := fs } } := by
  induction l generalizing s with
  | nil => exact ⟨s.sec.feeders, rfl⟩
  | cons n l ih => exact ih (s.modFeeder n g)

/-- A change that does nothing the second time is seen in the feeders listed and in no other. -/
theorem forEach_modFeeder_feeder? {g : Feeder → Feeder} (hn : ∀ f, (g f).number = f.number) (hg : ∀ f, g (g f) = g f)
    (l : List Nat) (m : Nat) (s : State) :
    (forEach l (fun f t => t.modFeeder f g) s).feeder? m = (s.feeder? m).map (fun f => if m ∈ l then g f else f) := by
  induction l generalizing s with
  | nil => simp [forEach]
  | cons n l ih =>
    have hstep := ih (s.modFeeder n g)
    rw [State.feeder?_modFeeder s n m hn, Option.map_map] at hstep
    refine hstep.trans (congrArg (fun k => (s.feeder? m).map k) ?_)
    funext f
    by_cases hm : m = n <;> by_cases hl : m ∈ l <;> simp [Function.comp, hm, hl, hg]

theorem Feeder.endOpen_number (f : Feeder) : f.endOpen.number = f.number := by unfold Feeder.endOpen; split <;> rfl

theorem Feeder.endOpen_endOpen (f : Feeder) : f.endOpen.endOpen = f.endOpen := by
  unfold Feeder.endOpen
  split <;> rfl

/-- R22: the feeders of the section lose their OPEN orders, the others keep theirs. -/
theorem isolateState_feeder? (x : Section) (m : Nat) (s : State) :
    (isolateState x s).feeder? m = (s.feeder? m).map (fun f => if m ∈ x.feeders then f.endOpen else f) := by
  rw [← forEach_modFeeder_feeder? Feeder.endOpen_number Feeder.endOpen_endOpen]
  unfold State.feeder? isolateState
  rw [(changeState_feeders ..).1]

theorem isolateState_restingEntry {s : State} {x : Section} (hx : s.section? x.number = some x) (hr : x.resting) :
    s.RestingEntry (isolateState x s) x (x.cleared.plain .isolated) ∧ (isolateState x s).sec.trips = s.sec.trips := by
  obtain ⟨fs, hfs⟩ := forEach_modFeeder_eq x.feeders (·.endOpen) s
  have hx' : State.section? { s with sec := { s.sec with feeders := fs } } x.number = some x := hx
  have hentry := changeState_restingEntry (prep := (·.cleared)) (fun _ => rfl) hx' hr (.inl rfl)
  unfold isolateState
  rw [hfs]
  exact ⟨⟨hentry.frame, hentry.found, hentry.others, hentry.switches, hentry.causes, hentry.lockout⟩,
    changeState_isolated_trips hx' hr⟩

/-! ## The answers of SECTION_ORDER (R19) -/

/-- The state after the reply of a SECTION_ORDER that was carried out: OK and the section's new record. -/
def State.orderAnswered (t : State) (tag : Byte) (y : Section) : State := t.replied 0x11 tag (0x00 :: sectionRecord t y)

/-- An order that was carried out, without a frame on the way, is answered OK with the record after it. -/
theorem serve_orderSection {s : State} (hr : s.ready = true) {tag : Byte} {n : Nat} {f : State → State} {y : Section}
    (hl : (f s).link = s.link) (hy : (f s).section? n = some y) :
    serve 0x11 tag (orderSection n f) s = (f s).orderAnswered tag y := by
  obtain ⟨hserving, hslot⟩ := State.ready_serving hr
  rw [State.orderAnswered, ← State.sectionBytes_of_found hy]
  exact serve_some hr 0x11 tag rfl (by rw [hl]; exact hserving) (by rw [hl]; exact hslot)

theorem refuseSection_found {s : State} {n : Nat} {x : Section} (hx : s.section? n = some x) (code : Byte) :
    refuseSection code n s = (s, some (code :: sectionRecord s x)) := by
  rw [refuseSection, State.sectionBytes_of_found hx]

/-- A request is carried out by what its owner does with the present state, however the owner came to it. -/
theorem serve_congr {s : State} {h k : Handler} (he : h s = k s) (kind tag : Byte) : serve kind tag h s = serve kind tag k s := by
  simp only [serve, carryOut, he]

/-- The reply is the one frame the order adds, and shows the record after the order (R19). -/
theorem State.RestingEntry.outbound {s t : State} {x y : Section} (h : s.RestingEntry t x y) (tag : Byte) :
    (t.orderAnswered tag y).link.outbound =
      s.link.outbound ++ [replyFrame 0x11 tag (0x00 :: sectionRecord (t.orderAnswered tag y) y)] := by
  show t.link.outbound ++ [_] = _
  rw [h.causes.1]
  rfl

theorem exec_isolate (tag : Byte) (args : List Byte) (s : State) :
    exec (.isolate tag args) s = .next (serve 0x11 tag (onSection isolateSection args) s) := rfl

theorem exec_restore (tag : Byte) (args : List Byte) (s : State) :
    exec (.restore tag args) s = .next (serve 0x11 tag (onSection restoreSection args) s) := rfl

theorem exec_release (tag : Byte) (args : List Byte) (s : State) :
    exec (.release tag args) s = .next (serve 0x11 tag (onSection releaseSection args) s) := rfl

/-- An order to a section that has a record, carried out by that section's own handler. -/
theorem serve_onSection {s : State} {tag b : Byte} {x : Section} {h : Section → Handler} {k : Handler} (h1 : 1 ≤ b.toNat)
    (h16 : b.toNat ≤ 16) (hx : s.section? b.toNat = some x) (hk : h x = k) :
    serve 0x11 tag (onSection h [b]) s = serve 0x11 tag k s :=
  serve_congr (by rw [onSection_found h h1 h16 hx, hk]) 0x11 tag

theorem serve_refuseSection {s : State} (hr : s.ready = true) (tag : Byte) {x : Section} (hx : s.section? x.number = some x) :
    serve 0x11 tag (refuseSection resultRefusedState x.number) s = s.replied 0x11 tag (0x05 :: sectionRecord s x) :=
  serve_unchanged hr 0x11 tag (refuseSection_found hx resultRefusedState)

/-- Settles O32: each order that is carried out is an entry between states without power (`changeState_restingEntry`), each other
one the refusal with the record. -/
theorem isolateRestoreRelease : Obligations.IsolateRestoreRelease := by
  intro tag b x s hr h1 h16 hx
  have hn : x.number = b.toNat := State.section?_number hx
  have hself : s.section? x.number = some x := hn ▸ hx
  refine ⟨?isolate, ?restore, ?release, ?isolateRefused, ?restoreRefused, ?releaseRefused⟩
  case isolate =>
    intro hs
    have hrest : x.resting := hs.elim (fun h => .inr (.inl h)) (fun h => .inr (.inr h))
    obtain ⟨h, htrips⟩ := isolateState_restingEntry hself hrest
    obtain ⟨hbase, hreg, hring⟩ := h.frame
    refine ⟨(isolateState x s).orderAnswered tag (x.cleared.plain .isolated), x.cleared.plain .isolated, ?_, hbase,
      hn ▸ h.found, hn ▸ h.others, rfl, ?_, ?_, htrips, h.switches, hreg, hring, h.causes.2, hn ▸ h.lockout, h.outbound tag⟩
    · rw [exec_isolate, serve_onSection h1 h16 hx (if_pos hs), serve_orderSection hr h.causes.1 h.found]
    · intro f hf g hg
      refine (isolateState_feeder? x f s).trans ?_
      rw [hg, Option.map_some, if_pos hf]
      rfl
    · intro f hf
      refine (isolateState_feeder? x f s).trans ?_
      simp [hf]
  case restore =>
    intro hs
    have hrest : x.resting := .inl hs
    have h : s.RestingEntry (changeState x.number .dead id s) x (x.plain .dead) :=
      changeState_restingEntry (fun _ => rfl) hself hrest (.inr rfl)
    obtain ⟨hbase, hreg, hring⟩ := h.frame
    refine ⟨(changeState x.number .dead id s).orderAnswered tag (x.plain .dead), ?_, hbase, hn ▸ h.found,
      hn ▸ h.others, (changeState_feeders ..).1, ?_, h.switches, hreg, hring, h.causes.2, h.outbound tag⟩
    · rw [exec_restore, serve_onSection h1 h16 hx (if_pos hs), serve_orderSection hr h.causes.1 h.found]
    · exact hn ▸ changeState_dead_trips hself hrest
  case release =>
    intro hs
    have hrest : x.resting := .inr (.inr hs)
    have h := changeState_restingEntry (prep := (·.cleared)) (fun _ => rfl) hself hrest (.inr rfl)
    obtain ⟨hbase, hreg, hring⟩ := h.frame
    refine ⟨(changeState x.number .dead (·.cleared) s).orderAnswered tag (x.cleared.plain .dead), x.cleared.plain .dead, ?_,
      hbase, hn ▸ h.found, hn ▸ h.others, rfl, (changeState_feeders ..).1, ?_, h.switches, hreg, hring, h.causes.2,
      hn ▸ h.lockout hs, h.outbound tag⟩
    · rw [exec_release, serve_onSection h1 h16 hx (if_pos hs), serve_orderSection hr h.causes.1 h.found]
    · exact hn ▸ changeState_dead_trips hself hrest
  case isolateRefused =>
    intro hd hl
    rw [exec_isolate, serve_onSection h1 h16 hx (if_neg (not_or.2 ⟨hd, hl⟩)), serve_refuseSection hr tag hself]
  case restoreRefused =>
    intro hs
    rw [exec_restore, serve_onSection h1 h16 hx (if_neg hs), serve_refuseSection hr tag hself]
  case releaseRefused =>
    intro hs
    rw [exec_release, serve_onSection h1 h16 hx (if_neg hs), serve_refuseSection hr tag hself]

end Sys2Proof.Machine

/-!
The sample intake (R34) and the samples that find a context IDLE (R35).
-/

namespace Sys2Proof.Machine

/-! ## The sample intake (R34) -/

/-- Of a buffer of up to 15 entries nothing is dropped; of a longer one, all but its last 15 stay before the new entry. -/
theorem pushSample_eq (i : Int) (l : List Int) : pushSample i l = (l ++ [i]).drop (l.length - 15) :=
  congrArg (fun n => (l ++ [i]).drop n) (Nat.add_sub_add_right l.length 1 15)

@[simp] theorem Context.intake_status (c : Context) (i : Int) (v : Nat) : (c.intake i v).status = c.status := rfl

/-! ## How a sample meets a context, by its status (R35, R36, R37, R44) -/

theorem Context.status_ne_armed_of_idle {c : Context} (h : c.status = .idle) : c.status ≠ .armed := by
  rw [h]
  decide

theorem Context.not_ordinary_of_status_ne_armed {c : Context} (h : c.status ≠ .armed) : c.ordinary = false := by
  rw [Context.ordinary, beq_eq_false_iff_ne.2 h, Bool.false_and]

theorem Context.not_resynchronises_of_idle {c : Context} (h : c.status = .idle) : c.resynchronises = false := by
  rw [Context.resynchronises, h, bne_self_eq_false, Bool.false_and]

/-- Only an ARMED context becomes BLIND on a missed sample (R44). -/
theorem Context.not_blindsNext_of_status_ne_armed {c : Context} (h : c.status ≠ .armed) : c.blindsNext = false := by
  rw [Context.blindsNext, beq_eq_false_iff_ne.2 h, Bool.false_and]

/-- R35: an IDLE context is neither armed nor to be resynchronised, so after the intake the sample sets I_prev and miss alone. -/
theorem Context.good_idle {c : Context} (h : c.status = .idle) (vehicles : Nat) (i : Int) (v : Nat) :
    c.good vehicles i v = ({ c.intake i v with iPrev := some (clampCurrent i), miss := 0 }, none) := by
  have hidle : (c.intake i v).status = .idle := (c.intake_status i v).trans h
  have hordinary := Context.not_ordinary_of_status_ne_armed (Context.status_ne_armed_of_idle hidle)
  have hresync := Context.not_resynchronises_of_idle hidle
  simp only [Context.good, hordinary, hresync, Bool.false_eq_true, if_false]

/-- R35, R43: a missed sample is only counted where the context is not ARMED. -/
theorem Context.missed_of_status_ne_armed {c : Context} (h : c.status ≠ .armed) :
    c.missed = { c with miss := satAdd 255 c.miss } := by
  simp only [Context.missed, Context.not_blindsNext_of_status_ne_armed h, Bool.false_eq_true, if_false]

/-- Settles O51: the sample's handling by status (`good_idle`) with the buffer of the intake (`pushSample_eq`), and the missed
sample of a context that is not ARMED. -/
theorem idleContextFollowsCurrent : Obligations.IdleContextFollowsCurrent := by
  intro c vehicles i v hidle
  refine ⟨?good, ?missed⟩
  case good =>
    rw [Context.good_idle hidle, Context.intake, pushSample_eq]
    rfl
  case missed => exact Context.missed_of_status_ne_armed (Context.status_ne_armed_of_idle hidle)

end Sys2Proof.Machine

/-!
The read of a switch point (R99), and the RESTORE that finds it outside FAULT (R97).
-/

namespace Sys2Proof.Machine

/-! ## A switch point named by its number (R97, R99) -/

theorem onSwitchNumber_found {s : State} {n : Nat} {w : SwitchPoint} (h : SwitchPoint → Handler) (h1 : 1 ≤ n) (h24 : n ≤ 24)
    (hw : s.switch? n = some w) : onSwitchNumber n h s = h w s := by
  simp only [onSwitchNumber, within_iff.2 ⟨h1, h24⟩, if_true, hw]

theorem onSwitchNumber_unknown {s : State} {n : Nat} (h : SwitchPoint → Handler) (h1 : 1 ≤ n) (h24 : n ≤ 24)
    (hw : s.switch? n = none) : onSwitchNumber n h s = (s, some [0x04]) := by
  simp only [onSwitchNumber, within_iff.2 ⟨h1, h24⟩, if_true, hw]
  rfl

theorem onSwitchNumber_outOfRange {n : Nat} (h : SwitchPoint → Handler) (hn : n = 0 ∨ 24 < n) (s : State) :
    onSwitchNumber n h s = (s, some [0x03]) := by
  have hout : ¬ within 1 24 n = true := by rw [within_iff]; omega
  simp only [onSwitchNumber, if_neg hout]
  rfl

theorem onSwitchAnyLeg_badLength {args : List Byte} (h : SwitchPoint → Handler) (ha : args.length ≠ 2) (s : State) :
    onSwitchAnyLeg h args s = (s, some [0x02]) := by
  unfold onSwitchAnyLeg
  split
  · simp at ha
  · rfl

theorem getSwitch_badLength {args : List Byte} (ha : args.length ≠ 1) (s : State) :
    getSwitch args s = (s, some [0x02]) := by
  unfold getSwitch
  split
  · simp at ha
  · rfl

theorem State.switchBytes_of_found {s : State} {n : Nat} {w : SwitchPoint} (hw : s.switch? n = some w) :
    s.switchBytes n = switchRecord s w := by
  simp only [State.switchBytes, hw]

/-! ## Where the fields of the switch record stand (10.4) -/

@[simp] theorem requestBytes_length (r : SwitchRequest) : (requestBytes r).length = 9 := rfl

@[simp] theorem queueBytes_length (q : List SwitchRequest) : (q.flatMap requestBytes).length = 9 * q.length := by
  induction q with
  | nil => rfl
  | cons r q ih => rw [List.flatMap_cons, List.length_append, ih, requestBytes_length, List.length_cons]; omega

theorem switchRecord_length (s : State) (w : SwitchPoint) : (switchRecord s w).length = 33 + 9 * w.queue.length := by
  simp only [switchRecord, List.length_append, List.length_cons, List.length_nil, le16_length, optTime_length, queueBytes_length]

theorem switchRecord_layout (s : State) (w : SwitchPoint) :
    let body := switchRecord s w
    body.length = 33 + 9 * w.queue.length ∧
      body.take 3 = u8 w.number :: le16 w.node ∧
      (body.drop 3).take 2 = [u8 w.supply, u8 (((s.section? w.supply).map (·.state.code)).getD 0)] ∧
      (body.drop 5).take 3 = [u8 w.defaultLeg.code, u8 w.tThrow, yes w.hold] ∧
      (body.drop 8).take 6 = [u8 (legCode w.position), u8 w.state.code, u8 (faultReasonCode w.fault), u8 w.zone,
        u8 (legCode w.pin), u8 (legCode (w.throw.map (·.target)))] ∧
      (body.drop 14).take 6 = optTime (w.throw.map (·.start)) ++ [yes (w.throw.any (·.seen))] ∧
      (body.drop 20).take 6 = [u8 w.discrepancy, w.entries, w.exits, w.dewirements, yes w.baseline, u8 w.aspect.code] ∧
      (body.drop 26).take 7 = optTime w.headSince ++ [yes w.holdLong, u8 w.queue.length] ∧
      body.drop 33 = w.queue.flatMap requestBytes := by
  refine ⟨switchRecord_length s w, ?_⟩
  simp [switchRecord, List.take_append, List.drop_append, List.take_of_length_le, List.drop_of_length_le]

/-! ## GET_SWITCH, and RESTORE outside FAULT -/

theorem exec_getSwitch_unchanged {s : State} (hr : s.ready = true) {tag : Byte} {args body : List Byte}
    (h : getSwitch args s = (s, some body)) : exec (.getSwitch tag args) s = .next (s.replied 0x20 tag body) :=
  congrArg Host.Outcome.next (serve_unchanged hr 0x20 tag h)

theorem exec_switchRestore_unchanged {s : State} (hr : s.ready = true) {tag : Byte} {args body : List Byte}
    (h : restoreSwitch args s = (s, some body)) : exec (.switchRestore tag args) s = .next (s.replied 0x21 tag body) :=
  congrArg Host.Outcome.next (serve_unchanged hr 0x21 tag h)

/-- R99: a switch point that has a record is answered with that record. -/
theorem getSwitch_found {s : State} {b : Byte} {w : SwitchPoint} (h1 : 1 ≤ b.toNat) (h24 : b.toNat ≤ 24)
    (hw : s.switch? b.toNat = some w) : getSwitch [b] s = (s, some (0x00 :: switchRecord s w)) := by
  rw [getSwitch, onSwitchNumber_found _ h1 h24 hw, State.switch?_number hw, showing, State.switchBytes_of_found hw]
  rfl

/-- R97: outside FAULT there is nothing to restore, and the record shows so. -/
theorem restoreSwitch_refused {s : State} {b l : Byte} {w : SwitchPoint} (h1 : 1 ≤ b.toNat) (h24 : b.toNat ≤ 24)
    (hw : s.switch? b.toNat = some w) (hs : w.state ≠ .fault) :
    restoreSwitch [b, l] s = (s, some (0x05 :: switchRecord s w)) := by
  rw [restoreSwitch, onSwitchAnyLeg, onSwitchNumber_found _ h1 h24 hw, if_neg hs, State.switch?_number hw,
    State.switchBytes_of_found hw]
  rfl

/-- Settles O36: the body is the switch record, whose layout says where each field stands; both requests make the same check of
the number. -/
theorem switchReads : Obligations.SwitchReads := by
  intro tag b s hr
  refine ⟨?found, ?outOfRange, ?unknown, ?readLength, ?restoreLength⟩
  case found =>
    intro w h1 h24 hw
    obtain ⟨hlen, hhead, hsupply, hsettings, hnow, hthrow, hcounts, hqueueHead, hqueue⟩ := switchRecord_layout s w
    rw [State.switch?_number hw, u8_toNat] at hhead
    refine ⟨switchRecord s w, exec_getSwitch_unchanged hr (getSwitch_found h1 h24 hw),
      fun l hs => exec_switchRestore_unchanged hr (restoreSwitch_refused h1 h24 hw hs), hlen, hhead, ?_, hsettings, hnow, hthrow,
      hcounts, hqueueHead, hqueue⟩
    intro x hx
    rw [hsupply, hx]
    rfl
  case outOfRange =>
    exact fun hb => ⟨exec_getSwitch_unchanged hr (onSwitchNumber_outOfRange _ hb s),
      fun _ => exec_switchRestore_unchanged hr (onSwitchNumber_outOfRange _ hb s)⟩
  case unknown =>
    exact fun h1 h24 hw => ⟨exec_getSwitch_unchanged hr (onSwitchNumber_unknown _ h1 h24 hw),
      fun _ => exec_switchRestore_unchanged hr (onSwitchNumber_unknown _ h1 h24 hw)⟩
  case readLength => exact fun args ha => exec_getSwitch_unchanged hr (getSwitch_badLength ha s)
  case restoreLength => exact fun args ha => exec_switchRestore_unchanged hr (onSwitchAnyLeg_badLength _ ha s)

end Sys2Proof.Machine

/-!
The requests of the control link that only read: IDENTIFY and PING (R165).
-/

namespace Sys2Proof.Machine

/-! ## A request whose body is empty (R162) -/

@[simp] theorem noOperand_nil (h : Handler) : noOperand h [] = h := rfl

theorem noOperand_badLength {args : List Byte} (h : Handler) (ha : args ≠ []) : noOperand h args = refuse 0x02 := by
  cases args with
  | nil => exact absurd rfl ha
  | cons b bs => rfl

/-- A read that takes no operand is answered OK with its contents, and nothing else changes. -/
theorem serve_noOperand_showing {s : State} (hr : s.ready = true) (kind tag : Byte) (c : State → List Byte) :
    serve kind tag (noOperand (showing c) []) s = s.replied kind tag (0x00 :: c s) := by
  rw [noOperand_nil, serve_showing hr]

theorem serve_noOperand_badLength {s : State} (hr : s.ready = true) (kind tag : Byte) (h : Handler) {args : List Byte}
    (ha : args ≠ []) : serve kind tag (noOperand h args) s = s.replied kind tag [0x02] := by
  rw [noOperand_badLength h ha, serve_refuse hr]

/-! ## IDENTIFY and PING -/

theorem exec_identify (tag : Byte) (args : List Byte) (s : State) :
    exec (.identify tag args) s =
      .next (serve 0x01 tag (noOperand (showing fun t => readBytes t.store.mem 0 256) args) s) := rfl

theorem exec_ping (tag : Byte) (args : List Byte) (s : State) :
    exec (.ping tag args) s = .next (serve 0x02 tag (noOperand (showing fun t => le32 t.time.now.toNat) args) s) := rfl

/-- Settles O17: both requests are reads without an operand, so the empty body shows their contents and any other is refused. -/
theorem identifyAndPing : Obligations.IdentifyAndPing := by
  intro tag s hr
  refine ⟨?identify, ?ping, ?identifyLength, ?pingLength⟩
  case identify => rw [exec_identify, serve_noOperand_showing hr]
  case ping => rw [exec_ping, serve_noOperand_showing hr]
  case identifyLength =>
    intro args ha
    rw [exec_identify, serve_noOperand_badLength hr _ _ _ ha]
  case pingLength =>
    intro args ha
    rw [exec_ping, serve_noOperand_badLength hr _ _ _ ha]

end Sys2Proof.Machine

/-!
The map store: READ_PAGE (R168), the reads of a page that leave the store as it stands.
-/

namespace Sys2Proof.Machine

/-! ## The page state byte and the contents of a reply (R166, R168) -/

/-- R166: page 0 is WRITTEN always, a map page while its mark is set. -/
@[simp] theorem Store.isWritten_iff (st : Store) (page : Nat) : st.isWritten page = true ↔ page = 0 ∨ page ∈ st.written := by
  simp [Store.isWritten]

theorem byte_toNat_eq_zero {p : Byte} : p.toNat = 0 ↔ p = 0 := by
  rw [← BitVec.toNat_inj]; rfl

/-- The page state of a page named by a byte. -/
theorem yes_isWritten (st : Store) (p : Byte) :
    yes (st.isWritten p.toNat) = if p = 0 ∨ p.toNat ∈ st.written then 1 else 0 := by
  simp only [yes, Store.isWritten_iff, byte_toNat_eq_zero]

/-- The working version is 0 while no map is installed (R176), so the reply may show it without asking whether one is. -/
theorem Installed.shownVersion_eq {m : Installed} (hv : m.valid = false → m.version = 0) :
    (if m.valid then m.version else 0) = m.version := by
  cases h : m.valid with
  | true => rfl
  | false => exact (hv h).symm

theorem pageContents_byte {s : State} (hv : s.map.valid = false → s.map.version = 0) (p : Byte) :
    pageContents s p.toNat = p :: (if p = 0 ∨ p.toNat ∈ s.store.written then 1 else 0) ::
      (readBytes s.store.mem (256 * p.toNat) 256 ++ le16 (if s.map.valid then s.map.version else 0)) := by
  rw [pageContents, u8_toNat, yes_isWritten, Installed.shownVersion_eq hv]

/-! ## READ_PAGE (R168) -/

theorem exec_readPage (tag : Byte) (args : List Byte) (s : State) :
    exec (.readPage tag args) s = .next (serve 0x40 tag (readPage args) s) := rfl

theorem readPage_inRange {p : Byte} (hp : p.toNat ≤ 63) : readPage [p] = showing fun s => pageContents s p.toNat :=
  if_pos hp

theorem readPage_outOfRange {p : Byte} (hp : 63 < p.toNat) : readPage [p] = refuse 0x03 :=
  if_neg (Nat.not_le.mpr hp)

theorem readPage_badLength {args : List Byte} (ha : args.length ≠ 1) : readPage args = refuse 0x02 := by
  match args, ha with
  | [], _ => rfl
  | [_], ha => exact absurd rfl ha
  | _ :: _ :: _, _ => rfl

/-- Settles O43: the body decides whether the page is shown or the request refused, and either way the state is left alone. -/
theorem readPageRule : Obligations.ReadPageRule := by
  intro tag p s hr hv
  refine ⟨?shown, ?outOfRange, ?badLength⟩
  case shown =>
    intro hp
    refine ⟨?reply, readBytes_length _ _ _, readBytes_getElem? _ _ _⟩
    rw [exec_readPage, readPage_inRange hp, serve_showing hr, pageContents_byte hv]
  case outOfRange =>
    intro hp
    rw [exec_readPage, readPage_outOfRange hp, serve_refuse hr]
  case badLength =>
    intro args ha
    rw [exec_readPage, readPage_badLength ha, serve_refuse hr]

end Sys2Proof.Machine
